-- ==== Sys2Proof/Word.lean ====
section
/-! DEFINITION. Word.lean: the plain words of the Moltane FD416: bytes, texts, the index types of its fixed tables, and
the whole numbers it counts with.  Table indexes start at 0 here; the manual's numbers H1, T1, station 1 and deviation
entry 1 are index 0 (see `notes/assumptions/14.md`). -/

namespace Sys2Proof

/-- One byte of a payload, or one character of a lot id or product code. -/
abbrev Byte := BitVec 8

/-- A lot id or a product code: a string of characters (R2, R24). -/
abbrev Text := List Byte

/-- Stations 1 to 31 (R176); index `i` is station `i + 1`.  Node 0 is the part and has no index. -/
abbrev StationId := Fin 31

/-- Handlers H1 to H16 (R67); index `i` is handler H`i + 1`. -/
abbrev HandlerId := Fin 16

/-- Testers T1 to T16 (R87); index `i` is tester T`i + 1`. -/
abbrev TesterId := Fin 16

/-- Deviation entries 1 to 8 (R91); index `i` is entry `i + 1`. -/
abbrev DevId := Fin 8

/-- Lot slots 0 to 255 (R1). -/
abbrev Slot := Fin 256

/-- Product indexes 0 to 63 (R23). -/
abbrev ProductIx := Fin 64

/-- Library entries 0 to 127 (R35). -/
abbrev LibIx := Fin 128

/-- Site index: index `i` is site `i + 1` (R67). -/
abbrev SiteIx := Fin 8

/-- Floor time in seconds, which wraps at 32 bits (R182). -/
abbrev Time := BitVec 32

/-- A program signature (R35). -/
abbrev Signature := BitVec 32

/-- A count that holds at `top` (the manual's saturating counts). -/
def holdAt (top n : Nat) : Nat := if top ≤ n then top else n

/-- A figure in permille: a count of favourable units over a count of units, truncated (R117). -/
def permille (part whole : Nat) : Nat := part * 1000 / whole

end Sys2Proof
end

