-- ==== Sys2Proof/Config.lean ====
section
/-! DEFINITION. Config.lean: the fixed sizes, limits and identity codes of the FD416, each with the rule that gives it. -/

namespace Sys2Proof.Config

/-- Frames the receive buffer holds, and responses the response queue holds (R171, R174). -/
def linkDepth : Nat := 4
/-- Bytes a payload may hold (R168). -/
def payloadMax : Nat := 48
/-- Where each link counter holds (R184). -/
def linkCounterMax : Nat := 65535
/-- Where the line-reset count holds (R185). -/
def lineResetMax : Nat := 255
/-- Where the queue stamp counter and the release-waiting counter hold (R42, R158). -/
def stampMax : Nat := 4294967295
/-- Where a queue age holds (R46). -/
def queueAgeMax : Nat := 604800
/-- Queue age beyond which a lot earns no more credit (R54). -/
def creditAgeMax : Nat := 86400
/-- Greatest unit count of a step, and greatest gap total (R7, R10). -/
def unitMax : Nat := 16777215
/-- Greatest quantity in of a step (R8). -/
def quantityMax : Nat := 999999
/-- Runs a step may hold (R1, R147). -/
def runMax : Nat := 4
/-- Times a step may be rescreened (R148). -/
def rescreenMax : Nat := 3
/-- Records the release queue holds (R155). -/
def releaseMax : Nat := 32
/-- Load attempts of one reservation (R100). -/
def attemptMax : Nat := 3
/-- Greatest hit count of a deviation entry (R91, R94). -/
def hitMax : Nat := 255
/-- Reference temperature of the changeover of a handler with no current setpoint (R53). -/
def referenceSetpoint : Int := 25
/-- Least skip of a touchdown index that is out of sequence (R110). -/
def sequenceLimit : Nat := 257
/-- Family code that PART_STATUS reports (R184). -/
def familyCode : Nat := 4
/-- Revision code that PART_STATUS reports (R184). -/
def revisionCode : Nat := 1

/-- Bytes 8 and 9 of a CELL_STATUS answer when the next expected index is absent: R175 marks the absence in byte 10 and
states no value for the two bytes.  A free value (`notes/assumptions/17.md`). -/
opaque absentIndex : BitVec 16

end Sys2Proof.Config
end

