-- ==== Sys2Proof/Syntax.lean ====
section
/-! DEFINITION. Syntax.lean: the commands of the FD416, one constructor of `Instr` for each row of
`spec/opcode_table.json`, and the operands they carry.

A request row carries the sender and tag of its frame (`Msg`) and the content its rule says the request carries.
Operands are as wide as a frame could carry them, so that a value outside its range can be sent and is answered
BAD_FORMAT; `notes/assumptions/2.md` says how they stand to the payload bytes. -/

namespace Sys2Proof

/-- The three temperature classes (R26). -/
inductive TempClass where
  | cold | room | hot
deriving DecidableEq, Repr

/-- What a request frame says besides its kind and content (R168): who sent it, the tag to echo, and whether its payload
fits the layout of its kind (R175: one that does not is refused with BAD_FORMAT). -/
structure Msg where
  sender : StationId
  tag : Fin 16
  fits : Bool
deriving DecidableEq, Repr

/-- The step fields as a PRODUCT_DEFINE frame gives them (R25, the *given* column), before any check. -/
structure StepGiven where
  setpoint : Int
  soak : Nat
  programId : Nat
  revision : Nat
  kit : Nat
  /-- bit `b` stands for bin `b + 1` -/
  goodBins : BitVec 16
  /-- the group of each bin 1 to 16 in order: 0 to 3 for A to D -/
  groupOf : List Nat
  yieldLow : Nat
  hysteresis : Nat
  minSample : Nat
  window : Nat
  windowLow : Nat
  limitA : Nat
  limitB : Nat
  limitC : Nat
  limitD : Nat
  disparity : Nat
  queueLimit : Nat
  tolerance : Nat
deriving DecidableEq, Repr

/-- How a request names a product (R33, R34). -/
inductive ProductName where
  | index (n : Nat)
  | code (t : Text)
deriving DecidableEq, Repr

/-- The part selector of PRODUCT_QUERY (R34). -/
inductive ProductPart where
  | header
  | step (n : Nat)
  | other
deriving DecidableEq, Repr

/-- The part selector of LOT_QUERY with its argument (R13); a starting reason is given by its code (R175). -/
inductive LotPart where
  | header
  | step (n run : Nat)
  | holds (start : Nat)
  | endorsements
  | other
deriving DecidableEq, Repr

/-- The two forms of PROGRAM_QUERY (R39). -/
inductive LibraryKey where
  | revision (programId revision : Nat)
  | scanFirst
  | scanAfter (n : Nat)
deriving DecidableEq, Repr

/-- The selector of CELL_STATUS (R85). -/
inductive CellPart where
  | status | setup | other
deriving DecidableEq, Repr

/-- The selector of YIELD_QUERY, with the first site of SITES (R130). -/
inductive YieldPart where
  | lot
  | sites (first : Nat)
  | other
deriving DecidableEq, Repr

/-- The selector of RELEASE_QUERY with its argument (R164). -/
inductive ReleasePart where
  | queue (start : Nat)
  | recordOf (lot : Text)
  | recordAt (position : Nat)
  | waiting (start : Nat)
  | other
deriving DecidableEq, Repr

/-- The three values a DISPATCH_CONFIG may carry (R66). -/
structure SettingsGiven where
  kitTerm : Nat
  agingGain : Nat
  ageCeiling : Nat
deriving DecidableEq, Repr

/-- What the part meets on the line as it sends a response (R170, R174). -/
inductive SendOutcome where
  /-- a bit read back differs from the bit sent, up to the end of the check byte -/
  | readBackDiffers
  /-- the station drove the acknowledge slot dominant -/
  | acknowledged
  /-- the acknowledge slot stayed recessive -/
  | notAcknowledged
deriving DecidableEq, Repr

/-- The commands of the part, one constructor for each row of the opcode table. -/
inductive Instr where
  /-- power is applied, with the levels of straps RATE1 and RATE0 -/
  | powerOnReset (rate1 rate0 : Bool)
  /-- RESETN goes low while power is applied -/
  | lineReset
  /-- RESETN returns high, with the levels of straps RATE1 and RATE0 -/
  | resetRelease (rate1 rate0 : Bool)
  /-- the levels read on the line from a start bit on, `true` for recessive -/
  | frameReceive (levels : List Bool)
  /-- a frame of the kind code given is refused by the Link Interface -/
  | linkRefusal (sender : StationId) (kind : Fin 64) (tag : Fin 16)
  | responseSend (outcome : SendOutcome)
  | secondTick
  | queueTimeExpiry (slot : Slot)
  | soakExpiry (handler : HandlerId)
  | stagingDeadlineExpiry (tester : TesterId)
  | stallExpiry (handler : HandlerId)
  /-- `roles` by the bits of R175; `handler` none for 0xFF -/
  | stationEnroll (m : Msg) (station : Nat) (roles : Byte) (handler : Option Nat)
  | stationRemove (m : Msg) (station : Nat)
  | attentionRead (m : Msg)
  /-- no set reads the mask -/
  | attentionMask (m : Msg) (kinds : Option (BitVec 16))
  | timeSet (m : Msg) (time : Time)
  | partStatus (m : Msg)
  | lotRegister (m : Msg) (lot : Text) (product : Text) (quantity : Nat) (priority : Nat)
  | lotQuery (m : Msg) (lot : Text) (part : LotPart)
  | lotScan (m : Msg) (after : Option Nat)
  | lotPurge (m : Msg) (lot : Text)
  | lotEnd (m : Msg) (lot : Text)
  | productDefine (m : Msg) (index : Nat) (code : Text) (count : Nat) (number : Nat) (step : StepGiven)
  | productRemove (m : Msg) (name : ProductName)
  | productQuery (m : Msg) (name : ProductName) (part : ProductPart)
  | programDefine (m : Msg) (programId revision : Nat) (signature : Signature) (estimate : Nat)
  | programWithdraw (m : Msg) (programId revision : Nat)
  | programRemove (m : Msg) (programId revision : Nat)
  | programQuery (m : Msg) (key : LibraryKey)
  | callWork (m : Msg)
  | lotBegin (m : Msg) (lot : Text)
  | lotPriority (m : Msg) (lot : Text) (priority : Nat)
  /-- no class for a queue name outside the three -/
  | queueQuery (m : Msg) (queue : Option TempClass) (start : Nat)
  | dispatchConfig (m : Msg) (settings : Option SettingsGiven)
  /-- `capability` has bit 0 for COLD, 1 for ROOM, 2 for HOT -/
  | handlerConfig (m : Msg) (handler : Nat) (capability : Byte) (sites ramp stall lookahead : Nat)
  | handlerOnline (m : Msg)
  /-- no handler number is the form of a CELL sender -/
  | handlerOffline (m : Msg) (handler : Option Nat)
  | dock (m : Msg) (handler tester : Nat)
  | undock (m : Msg) (handler : Nat)
  /-- no kit is the value NONE -/
  | kitInstalled (m : Msg) (kit : Option Nat)
  | tempReached (m : Msg) (setpoint : Int)
  | tempLost (m : Msg)
  | handlerLock (m : Msg) (handler : Nat)
  | handlerUnlock (m : Msg) (handler : Nat)
  | cellStatus (m : Msg) (handler : Option Nat) (part : Option CellPart)
  | testerConfigEnable (m : Msg) (tester : Nat)
  | testerConfigDisable (m : Msg) (tester : Nat)
  | testerConfigClearActive (m : Msg) (tester : Nat)
  | testerQuery (m : Msg) (tester : Nat)
  | stageProgram (m : Msg) (tester programId revision : Nat)
  | programLoaded (m : Msg) (tester : Option Nat) (programId revision : Nat) (signature : Signature)
  | stageAbort (m : Msg) (tester : Option Nat)
  | deviationSet (m : Msg) (product step fromRevision substitute remaining : Nat)
  | deviationClear (m : Msg) (entry : Nat)
  | deviationQuery (m : Msg) (entry : Option Nat)
  | touchdown (m : Msg) (lot : Text) (index : BitVec 16) (results : List Nat)
  | siteEnable (m : Msg) (handler site : Nat)
  | yieldQuery (m : Msg) (handler : Option Nat) (part : YieldPart)
  | lotHold (m : Msg) (lot : Text)
  /-- `reason` by the codes of R175 -/
  | lotDisposeContinue (m : Msg) (lot : Text) (reason : Nat)
  | lotDisposeRescreen (m : Msg) (lot : Text) (reason : Nat)
  | lotDisposeScrap (m : Msg) (lot : Text) (reason : Nat)
  | drained (m : Msg) (lot : Text)
  /-- `role` by the codes of R175 -/
  | lotEndorse (m : Msg) (lot : Text) (role : Nat)
  | endorseWithdraw (m : Msg) (lot : Text)
  | shipCollect (m : Msg) (lot : Text)
  | releaseQuery (m : Msg) (part : ReleasePart)
deriving DecidableEq, Repr

end Sys2Proof
end

