-- ==== Sys2Proof/Decode.lean ====
section
/-! DEFINITION. Decode.lean: what a word spells by the bits of `spec/opcode_table.json`.  No row of the table gives bits: the
commands of the FD416 are pin events, ticks, expiries and request frames, and a request frame is read by
`Sys2Proof.Machine.receive` from the levels of the line. -/

namespace Sys2Proof

/-- The command that a word spells by the table's bits: none, since no row gives bits. -/
def decodeTableWord (_nbits _w : Nat) : Option Instr := none

end Sys2Proof
end

