-- ==== Sys2Proof/Machine/State.lean ====
section
/-! DEFINITION. Machine/State.lean: everything the manual gives the FD416 to hold, as plain data, and its value after
power-on (`State.reset`).

Fields that are present in certain states only (R4, and the table before R68) are arguments of the constructor of that
state, so a record cannot hold a field its state does not have.  Views that the manual derives from other records (the
dispatch queues, the release-waiting list, the counts of R29) are functions of this state, in `Machine/Ops.lean`. -/

namespace Sys2Proof.Machine

/-! ### Names -/

/-- The six roles, in the order of their role bits (R175). -/
inductive Role where
  | supervisor | floor | cell | quality | engineering | dock
deriving DecidableEq, Repr

/-- A set of roles, by the bits of R175. -/
abbrev RoleSet := BitVec 6

/-- The thirteen attention kinds, in code order (R175). -/
inductive AttentionKind where
  | readyToStart | setpointChange | kitChange | stageRequest | stop | siteDisabled | stalled | reservationCancelled
  | stagingFault | holdPlaced | lotComplete | lotReleased | partReset
deriving DecidableEq, Repr

/-- A set of attention kinds, bit `k` for kind code `k` (R180). -/
abbrev KindSet := BitVec 13

/-- The twelve hold reasons, in the order of the reason list (R5). -/
inductive HoldReason where
  | manual | yieldLow | windowLow | binSpike | countExcess | countShort | noGoodUnits | queueTime | thermal
  | programWithdrawn | interrupted | runLimit
deriving DecidableEq, Repr

/-- The four bin groups. -/
inductive BinGroup where
  | a | b | c | d
deriving DecidableEq, Repr

/-- A value for each bin group (R7, R25). -/
structure PerGroup (α : Type) where
  a : α
  b : α
  c : α
  d : α
deriving DecidableEq, Repr

/-- The eighteen result codes. -/
inductive Result where
  | ok | empty | duplicate | notPermitted | unknownKind | badFormat | noSuchLot | noSuchEntry | wrongState | tableFull
  | inUse | locked | lotHeld | busy | tooLate | outOfSequence | mismatch | notReleased
deriving DecidableEq, Repr

/-- One program revision, named by program id and revision. -/
structure Program where
  id : Nat
  revision : Nat
deriving DecidableEq, Repr

/-- A resolved program: the program, and the deviation entry that supplied its revision (R3). -/
structure Resolved where
  program : Program
  deviation : Option DevId
deriving DecidableEq, Repr

/-! ### Products and the program library -/

/-- A stored route step (R25, the *stored* column). -/
structure RouteStep where
  setpoint : Int
  soak : Nat
  program : Program
  kit : Nat
  /-- bit `b` stands for bin `b + 1` -/
  goodBins : BitVec 16
  /-- the group of bin `i + 1` at index `i` -/
  groupOf : Vector BinGroup 16
  yieldLow : Nat
  hysteresis : Nat
  minSample : Nat
  window : Nat
  windowLow : Nat
  groupLimit : PerGroup Nat
  disparity : Nat
  queueLimit : Nat
  tolerance : Nat
deriving DecidableEq, Repr

/-- An active route: its code and its steps, whose number is the step count (R23). -/
structure Route where
  code : Text
  steps : List RouteStep
deriving DecidableEq, Repr

/-- A pending definition: code, step count, the steps written so far, and its owner (R23). -/
structure Draft where
  code : Text
  count : Nat
  steps : List RouteStep
  owner : StationId
deriving DecidableEq, Repr

/-- A product entry; its state FREE, DRAFT, DEFINED or REDEFINING follows from the two parts (R23). -/
structure ProductEntry where
  active : Option Route
  draft : Option Draft
deriving DecidableEq, Repr

/-- When a revision was withdrawn and by whom (R35). -/
structure Withdrawal where
  time : Time
  station : StationId
deriving DecidableEq, Repr

/-- An occupied library entry; it is WITHDRAWN when it holds a withdrawal and RELEASED otherwise (R35). -/
structure LibraryEntry where
  program : Program
  signature : Signature
  estimate : Nat
  defineTime : Time
  definedBy : StationId
  withdrawal : Option Withdrawal
deriving DecidableEq, Repr

/-! ### Lots -/

/-- A hold entry (R5); `setter` none is the setter 0, the part itself; `groups` has bit 0 for group A. -/
structure HoldEntry where
  reason : HoldReason
  setTime : Time
  setter : Option StationId
  groups : BitVec 4
deriving DecidableEq, Repr

/-- An endorsement entry (R6). -/
structure Endorsement where
  station : StationId
  role : Role
  time : Time
deriving DecidableEq, Repr

/-- A run entry (R10). -/
structure RunEntry where
  handler : HandlerId
  tester : TesterId
  program : Program
  deviation : Option DevId
  beginTime : Time
  endTime : Option Time
  gapTotal : Nat
deriving DecidableEq, Repr

/-- A step record (R7); its closed flag is set when it holds a close time, and its step number is its place in the lot. -/
structure StepRecord where
  quantityIn : Nat
  tested : Nat
  good : Nat
  fails : PerGroup Nat
  missing : Option Nat
  closeTime : Option Time
  finalYield : Option Nat
  armed : Bool
  rescreens : Nat
  saturated : Bool
  runs : List RunEntry
deriving DecidableEq, Repr

/-- The queue fields of a waiting lot: queue stamp, queue age and queue-time countdown (R4). -/
structure Wait where
  stamp : Nat
  age : Nat
  left : Option Nat
deriving DecidableEq, Repr

/-- The eight lot states, each with the optional fields that R4 gives it. -/
inductive LotState where
  | queued (w : Wait)
  | reserved (w : Wait) (handler : HandlerId) (resolved : Resolved)
  | running (handler : HandlerId) (resolved : Resolved)
  | draining (handler : HandlerId) (resolved : Resolved) (cause : HoldReason)
  | held
  | complete (waiting : Option Nat)
  | released
  | scrapped
deriving DecidableEq, Repr

/-- A lot record (R3).  The step records of closed earlier steps are `past`, in step order, and the current one is `cur`. -/
structure Lot where
  slot : Slot
  id : Text
  product : ProductIx
  startQuantity : Nat
  priority : Nat
  state : LotState
  /-- in the order of the reason list -/
  holds : List HoldEntry
  waiver : Bool
  deviationUsed : Bool
  /-- in the order taken -/
  endorsements : List Endorsement
  past : List StepRecord
  cur : StepRecord
deriving DecidableEq, Repr

/-! ### Handlers, testers, deviations, guards -/

/-- The configuration fields that HANDLER_CONFIG gives a handler (R67). -/
structure HandlerConfig where
  /-- bit 0 for COLD, 1 for ROOM, 2 for HOT -/
  capability : BitVec 3
  siteCount : Nat
  /-- bit `i` for site `i + 1` -/
  sitesEnabled : BitVec 8
  rampRate : Nat
  stallTime : Nat
  lookahead : Nat
deriving DecidableEq, Repr

/-- The cell states, each with the lots the table before R68 gives it. -/
inductive Cell where
  | offline
  | idle
  | preparing (reserved : Slot)
  | ready (reserved : Slot)
  | running (current : Slot) (reserved : Option Slot)
  | draining (current : Slot) (reserved : Option Slot)
deriving DecidableEq, Repr

/-- The thermal states. -/
inductive Thermal where
  | unknown | ramping | soaking | atTemp
deriving DecidableEq, Repr

/-- A target setpoint with its soak (R67). -/
structure Target where
  setpoint : Int
  soak : Nat
deriving DecidableEq, Repr

/-- A handler record (R67).  The configured flag is set when `config` is present.  The soak countdown runs in SOAKING, the
stall countdown in RUNNING while the stalled flag is clear (R79, R84). -/
structure Handler where
  config : Option HandlerConfig
  bound : Option StationId
  docked : Option TesterId
  lock : Option StationId
  cell : Cell
  thermal : Thermal
  setpoint : Option Int
  target : Option Target
  soakLeft : Nat
  kit : Option Nat
  requiredKit : Option Nat
  stallLeft : Nat
  stalled : Bool
deriving DecidableEq, Repr

/-- A tester's active slot (R87). -/
structure ActiveSlot where
  program : Program
  signature : Signature
  withdrawn : Bool
deriving DecidableEq, Repr

/-- Why a load failed (R87). -/
inductive FaultCause where
  | signature | timeout
deriving DecidableEq, Repr

/-- The staged slot states other than EMPTY (R88). -/
inductive StagedState where
  | loading
  | loaded
  | fault (cause : FaultCause)
deriving DecidableEq, Repr

/-- A staged slot that is not EMPTY (R87). The deadline runs in LOADING only. -/
structure Staged where
  state : StagedState
  program : Program
  expected : Signature
  reported : Option Signature
  deadline : Nat
  attempts : Nat
deriving DecidableEq, Repr

/-- A tester record (R87).  An absent `staged` is EMPTY: program, signatures and cause absent, deadline and attempts 0. -/
structure Tester where
  configured : Bool
  docked : Option HandlerId
  active : Option ActiveSlot
  staged : Option Staged
deriving DecidableEq, Repr

/-- An occupied deviation entry (R91). -/
structure Deviation where
  product : ProductIx
  step : Nat
  fromRevision : Nat
  substitute : Nat
  remaining : Nat
  pending : Nat
  hits : Nat
  owner : StationId
  setTime : Time
deriving DecidableEq, Repr

/-- A site's tested and good counts in a run (R107). -/
structure SiteCount where
  tested : Nat
  good : Nat
deriving DecidableEq, Repr

/-- A present guard run (R107). In the ring `true` is a pass, oldest first. -/
structure GuardRun where
  lot : Slot
  run : Nat
  lastIndex : Option (BitVec 16)
  ring : List Bool
  sites : Vector SiteCount 8
deriving DecidableEq, Repr

/-! ### Stations, release, dispatch settings -/

/-- A mark of an attention set: a kind with its unit numbers, bit `i` for unit `i + 1` (R177, R180). -/
structure Mark where
  kind : AttentionKind
  units : BitVec 16
deriving DecidableEq, Repr

/-- A station entry (R176). The attention set is kept in code order, one mark per kind. -/
structure Station where
  enrolled : Bool
  roles : RoleSet
  bound : Option HandlerId
  mask : KindSet
  attention : List Mark
deriving DecidableEq, Repr

/-- A release record (R156). -/
structure ReleaseRecord where
  slot : Slot
  lot : Text
  product : Text
  quantity : Nat
  time : Time
  endorsers : List (StationId × Role)
deriving DecidableEq, Repr

/-- The floor dispatch settings (R66). -/
structure Settings where
  kitTerm : Nat
  agingGain : Nat
  ageCeiling : Nat
deriving DecidableEq, Repr

/-! ### Answers and frames -/

/-- What LOT_QUERY answers for HEADER (R13). -/
structure LotHeader where
  slot : Slot
  product : ProductIx
  startQuantity : Nat
  priority : Nat
  currentStep : Nat
  waiver : Bool
  deviationUsed : Bool
  stamp : Option Nat
  age : Option Nat
  left : Option Nat
  reservedHandler : Option HandlerId
  currentHandler : Option HandlerId
  resolved : Option Resolved
  drainCause : Option HoldReason
  holds : Nat
  endorsements : Nat
  waiting : Bool
deriving DecidableEq, Repr

/-- The lot states by name alone, as answers carry them. -/
inductive LotStateName where
  | queued | reserved | running | draining | held | complete | released | scrapped
deriving DecidableEq, Repr

/-- The cell states by name alone, as answers carry them. -/
inductive CellName where
  | offline | idle | preparing | ready | running | draining
deriving DecidableEq, Repr

/-- The staged slot states by name alone, as answers carry them. -/
inductive StagedName where
  | empty | loading | loaded | fault
deriving DecidableEq, Repr

/-- The library state of a revision as TESTER_QUERY reports it (R90). -/
inductive LibraryState where
  | released | withdrawn | absent
deriving DecidableEq, Repr

/-- The product entry states (R23). -/
inductive ProductState where
  | free | draft | defined | redefining
deriving DecidableEq, Repr

/-- How a selection chose its lot (R55). -/
inductive Choice where
  | byScore (changeover : Nat) (score : Int)
  | overdue
deriving DecidableEq, Repr

/-- The most recent reset (R184). -/
inductive ResetCause where
  | powerOn | line
deriving DecidableEq, Repr

/-- What CELL_STATUS answers for STATUS (R85). -/
structure CellStatus where
  cell : CellName
  thermal : Thermal
  currentLot : Option Text
  reservedLot : Option Text
  target : Option Int
  requiredKit : Option Nat
  /-- absent where no tester is docked -/
  staging : Option (StagedName × Option Program)
  stop : Bool
  stalled : Bool
  sitesEnabled : BitVec 8
  nextIndex : Option (BitVec 16)
deriving DecidableEq, Repr

/-- What CELL_STATUS answers for SETUP (R85). An unconfigured handler has no values for the four numbers (R69). -/
structure CellSetup where
  configured : Bool
  capability : BitVec 3
  siteCount : Option Nat
  rampRate : Option Nat
  stallTime : Option Nat
  lookahead : Option Nat
  bound : Option StationId
  docked : Option TesterId
  lock : Option StationId
  kit : Option Nat
  setpoint : Option Int
  target : Option Target
  soakLeft : Nat
  stallLeft : Nat
deriving DecidableEq, Repr

/-- What YIELD_QUERY answers for LOT (R130). -/
structure YieldLot where
  lot : Slot
  run : Nat
  cell : CellName
  lastIndex : Option (BitVec 16)
  nextIndex : Option (BitVec 16)
  gapTotal : Nat
  tested : Nat
  good : Nat
  fails : PerGroup Nat
  saturated : Bool
  armed : Bool
  /-- cumulative yield, with the mark whether tested has reached S -/
  cumulative : Option (Nat × Bool)
  ringSize : Nat
  ringFails : Nat
  windowYield : Option Nat
  fractions : PerGroup (Option Nat)
deriving DecidableEq, Repr

/-- One site of a YIELD_QUERY SITES answer (R130). -/
structure YieldSite where
  site : SiteIx
  enabled : Bool
  tested : Nat
  good : Nat
  yield : Option Nat
  gap : Option Int
deriving DecidableEq, Repr

/-- Table occupancy as PART_STATUS reports it (R184). -/
structure Occupancy where
  lots : Nat
  products : Nat
  library : Nat
  deviations : Nat
  releaseQueue : Nat
  waitingList : Nat
  stations : Nat
  handlers : Nat
deriving DecidableEq, Repr

/-- What an answer carries beyond its first byte, by the rule of its request. -/
inductive Body where
  /-- nothing beyond the first byte -/
  | nothing
  | enrolled (already : Bool)
  | attention (marks : List Mark)
  | mask (kinds : KindSet)
  | timeSet (before after : Time)
  | partStatus (family revision : Nat) (cause : ResetCause) (lineResets : Nat) (time : Time)
      (badFrames dropped linkFaults : Nat) (occupied : Occupancy)
  | registered (slot : Slot) (stamp : Nat)
  | lotHeader (state : LotStateName) (h : LotHeader)
  | lotStep (state : LotStateName) (quantityIn tested good : Nat) (fails : PerGroup Nat) (missing : Option Nat)
      (closeTime : Option Time) (finalYield : Option Nat) (armed : Bool) (rescreens : Nat) (saturated : Bool) (runs : Nat)
  | lotRun (state : LotStateName) (run : RunEntry)
  | lotHolds (state : LotStateName) (entries : List HoldEntry) (more : Bool)
  | lotEndorsements (state : LotStateName) (entries : List Endorsement)
  | scanned (slot : Slot) (lot : Text) (state : LotStateName) (step : Nat)
  | slotFreed (slot : Slot)
  | lotEnded (state : LotStateName) (missing : Nat) (finalYield : Option Nat) (placed : List HoldReason)
  | stepOpened (state : ProductState) (written : Nat) (soak hysteresis window : Nat)
  | stepContinued (written : Nat) (soak hysteresis window : Nat)
  | definitionCompleted (state : ProductState) (soak hysteresis window : Nat)
  | productFreed (index : ProductIx)
  | productHeader (index : ProductIx) (state : ProductState) (active : Option (Text × Nat)) (classes : List TempClass)
      (lots deviations : Nat) (draft : Option (Text × Nat × Nat × StationId))
  | productStep (step : RouteStep) (cls : TempClass)
  | libraryEntry (entry : LibIx)
  | program (entry : LibIx) (content : LibraryEntry) (inActive inStaged : Nat)
  | workChosen (lot : Text) (slot : Slot) (step : Nat) (setpoint : Int) (kit : Nat) (resolved : Resolved)
      (choice : Choice) (cell : CellName)
  | lotBegun (run : Nat) (beginTime : Time) (program : Program) (deviation : Option DevId)
  | priority (state : LotStateName) (position : Option Nat)
  | queue (length : Nat) (lots : List (Slot × Nat × Nat × Bool))
  | queueLength (length : Nat)
  | settings (stored : Settings)
  | handlerConfig (stored : HandlerConfig)
  | kit (installed required : Option Nat)
  | thermal (state : Thermal) (soakLeft : Nat)
  | thermalState (state : Thermal)
  | cellStatus (s : CellStatus)
  | cellSetup (s : CellSetup)
  | testerSlots (configured : Bool) (active : Option ActiveSlot) (staged : Option Staged)
  | tester (t : Tester) (activeState stagedState : Option LibraryState)
  | deadline (seconds : Nat)
  | stagedState (s : StagedName)
  | aborted (cancelled : Bool)
  | deviationEntry (entry : DevId)
  | deviationCleared (remaining hits : Nat)
  | deviationTable (entries : List (Option (ProductIx × Nat × Nat × Nat)))
  | deviation (d : Deviation)
  | touchdown (counted : Nat) (saturated : Bool) (nextIndex : BitVec 16) (cell : CellName) (siteDisabled : Option SiteIx)
      (placed : List HoldReason) (lookahead : Option Text)
  | siteEnabled (enabled : BitVec 8) (already : Bool)
  | yieldLot (y : YieldLot)
  | yieldSites (siteCount : Nat) (enabled : BitVec 8) (n sample : Nat) (sites : List YieldSite)
  | lotState (state : LotStateName)
  | disposed (state : LotStateName) (left : List HoldReason) (waiver : Bool) (stamp : Option Nat)
  | drained (state : LotStateName) (tested good holds : Nat)
  | endorsed (state : LotStateName) (missing : List Role) (place : Option Nat)
  | withdrawn (left : List Endorsement) (waiting : Bool)
  | shipped (r : ReleaseRecord)
  | releaseQueue (records waiting : Nat) (listed : List (Nat × Slot × Nat × Time))
  | releaseRecord (r : ReleaseRecord) (position : Nat)
  | waitingList (waiting : Nat) (listed : List (Slot × Nat × Nat))
  | releaseLengths (records waiting : Nat)
deriving DecidableEq, Repr

/-- A response of the response queue (R168, R173): the request's sender, kind and tag, the result code, the attention bit
and the content. -/
structure Response where
  receiver : StationId
  kind : Nat
  tag : Fin 16
  result : Result
  attention : Bool
  body : Body
deriving DecidableEq, Repr

/-- An acknowledged frame of the receive buffer (R168, R171). Its receiver is node 0. -/
structure Frame where
  priority : Bool
  sender : StationId
  kind : Nat
  tag : Fin 16
  payload : List Byte
deriving DecidableEq, Repr

/-- The floor link bit rates (R167). -/
inductive BitRate where
  | kbit125 | kbit250 | kbit500 | kbit1000
deriving DecidableEq, Repr

/-- The Link Interface: receive buffer, response queue, link counters, bit rate, and what the part last drove on the line:
whether it drove the acknowledge slot of the last frame addressed to it, and the last response it sent whole. -/
structure Link where
  rxBuffer : List Frame
  responses : List Response
  badFrames : Nat
  dropped : Nat
  linkFaults : Nat
  bitRate : BitRate
  ackSlot : Bool
  lineOut : Option Response
deriving DecidableEq, Repr

/-! ### The part -/

/-- The state of the FD416, with the queue of the commands that wait to be executed. -/
structure State where
  /-- the occupied slots of the lot table, in slot order (R1) -/
  lots : List Lot
  products : Vector ProductEntry 64
  library : Vector (Option LibraryEntry) 128
  handlers : Vector Handler 16
  testers : Vector Tester 16
  deviations : Vector (Option Deviation) 8
  guards : Vector (Option GuardRun) 16
  stations : Vector Station 31
  settings : Settings
  /-- queue stamp counter (R42) -/
  stampCounter : Nat
  releaseQueue : List ReleaseRecord
  /-- release-waiting counter (R158) -/
  waitingCounter : Nat
  floorTime : Time
  /-- TBCLK cycles counted since the last second tick (R182) -/
  divider : Nat
  link : Link
  resetCause : ResetCause
  lineResets : Nat
  /-- RESETN is low -/
  inReset : Bool
  /-- the commands that wait, first in first out -/
  pending : List Instr
deriving DecidableEq, Repr

/-- Reasons the machine stops with a fault: none.  Every command of the FD416 has the effect its rule gives it, and a
request it cannot take is answered with a result code. -/
inductive Fault
deriving DecidableEq, Repr

/-- Reasons a command is refused by the model. -/
inductive Refusal where
  /-- Raised by `exec` for a command that has no meaning in the model yet.  Safe: the model stops where the part goes on. -/
  | notModelled (mnemonic : String)
deriving DecidableEq, Repr

/-! ### After power-on -/

/-- An unconfigured handler (R69). -/
def Handler.initial : Handler :=
  { config := none, bound := none, docked := none, lock := none, cell := .offline, thermal := .unknown, setpoint := none
    target := none, soakLeft := 0, kit := none, requiredKit := none, stallLeft := 0, stalled := false }

/-- An unconfigured tester (R87). -/
def Tester.initial : Tester := { configured := false, docked := none, active := none, staged := none }

/-- An unenrolled station entry (R176). -/
def Station.initial : Station := { enrolled := false, roles := 0, bound := none, mask := 0, attention := [] }

/-- Station 1 at power-on: roles SUPERVISOR and FLOOR, and a mask of every kind those roles receive: STALLED, HOLD_PLACED,
LOT_RELEASED and PART_RESET (R176, R177). -/
def Station.first : Station :=
  { enrolled := true, roles := 0b000011, bound := none, mask := 0b1101001000000, attention := [] }

/-- The machine after power-on (R1, R23, R35, R41, R42, R66, R69, R87, R91, R107, R155, R158, R176, R182, R184, R185).
The straps' levels are not stated: RATE1 and RATE0 are taken low (DESIGN CHOICE, `notes/assumptions/5.md`). -/
def State.reset : State :=
  { lots := []
    products := Vector.replicate 64 { active := none, draft := none }
    library := Vector.replicate 128 none
    handlers := Vector.replicate 16 Handler.initial
    testers := Vector.replicate 16 Tester.initial
    deviations := Vector.replicate 8 none
    guards := Vector.replicate 16 none
    stations := (Vector.replicate 31 Station.initial).set 0 Station.first
    settings := { kitTerm := 1200, agingGain := 2, ageCeiling := 1440 }
    stampCounter := 0
    releaseQueue := []
    waitingCounter := 0
    floorTime := 0
    divider := 0
    link := { rxBuffer := [], responses := [], badFrames := 0, dropped := 0, linkFaults := 0, bitRate := .kbit125,
              ackSlot := false, lineOut := none }
    resetCause := .powerOn
    lineResets := 0
    inReset := false
    pending := [] }

end Sys2Proof.Machine
end

