-- ==== Sys2Proof/Machine/Codes.lean ====
section
/-! DEFINITION. Machine/Codes.lean: the codes of R173 and R175 (roles, attention kinds, reasons, states, results) and the
kind-code table with its role checks. -/

namespace Sys2Proof.Machine

/-! ### Roles -/

/-- The bit of a role in a role set, which is also its role code (R175). -/
def Role.code : Role → Nat
  | .supervisor => 0
  | .floor => 1
  | .cell => 2
  | .quality => 3
  | .engineering => 4
  | .dock => 5

/-- The roles in code order. -/
def Role.all : List Role := [.supervisor, .floor, .cell, .quality, .engineering, .dock]

/-- The role of a code. -/
def Role.ofCode? (n : Nat) : Option Role := Role.all.find? (fun r => r.code = n)

/-- A role set holds a role. -/
def RoleSet.has (rs : RoleSet) (r : Role) : Bool := rs.getLsbD r.code

/-- A role set holds one of the roles named. -/
def RoleSet.hasAny (rs : RoleSet) (roles : List Role) : Bool := roles.any rs.has

/-! ### Attention kinds -/

/-- The code of an attention kind (R175). -/
def AttentionKind.code : AttentionKind → Nat
  | .readyToStart => 0
  | .setpointChange => 1
  | .kitChange => 2
  | .stageRequest => 3
  | .stop => 4
  | .siteDisabled => 5
  | .stalled => 6
  | .reservationCancelled => 7
  | .stagingFault => 8
  | .holdPlaced => 9
  | .lotComplete => 10
  | .lotReleased => 11
  | .partReset => 12

/-- The attention kinds in code order. -/
def AttentionKind.all : List AttentionKind :=
  [.readyToStart, .setpointChange, .kitChange, .stageRequest, .stop, .siteDisabled, .stalled, .reservationCancelled,
   .stagingFault, .holdPlaced, .lotComplete, .lotReleased, .partReset]

/-- The roles that receive a kind: a station holding any one of them can be marked with it (R177). -/
def AttentionKind.receivers : AttentionKind → List Role
  | .readyToStart => [.cell]
  | .setpointChange => [.cell]
  | .kitChange => [.cell]
  | .stageRequest => [.cell]
  | .stop => [.cell]
  | .siteDisabled => [.cell]
  | .reservationCancelled => [.cell]
  | .stalled => [.cell, .floor]
  | .stagingFault => [.cell, .engineering]
  | .holdPlaced => [.quality, .floor]
  | .lotComplete => [.quality, .dock, .engineering]
  | .lotReleased => [.dock, .floor]
  | .partReset => Role.all

/-- A set of kinds holds a kind. -/
def KindSet.has (ks : KindSet) (k : AttentionKind) : Bool := ks.getLsbD k.code

/-- The set of the kinds a list names. -/
def KindSet.ofList (ks : List AttentionKind) : KindSet := ks.foldl (fun m k => m ||| (1 <<< k.code : BitVec 13)) 0

/-- Every kind a role set can receive (R177). -/
def fullMask (rs : RoleSet) : KindSet := KindSet.ofList (AttentionKind.all.filter (fun k => rs.hasAny k.receivers))

/-! ### Hold reasons, bin groups, temperature classes -/

/-- The code of a hold reason, its place in the reason list (R5, R175). -/
def HoldReason.code : HoldReason → Nat
  | .manual => 0
  | .yieldLow => 1
  | .windowLow => 2
  | .binSpike => 3
  | .countExcess => 4
  | .countShort => 5
  | .noGoodUnits => 6
  | .queueTime => 7
  | .thermal => 8
  | .programWithdrawn => 9
  | .interrupted => 10
  | .runLimit => 11

/-- The reasons in the order of the reason list. -/
def HoldReason.all : List HoldReason :=
  [.manual, .yieldLow, .windowLow, .binSpike, .countExcess, .countShort, .noGoodUnits, .queueTime, .thermal,
   .programWithdrawn, .interrupted, .runLimit]

/-- The reason of a code. -/
def HoldReason.ofCode? (n : Nat) : Option HoldReason := HoldReason.all.find? (fun r => r.code = n)

/-- The reasons whose clearing by CONTINUE sets the waiver flag (R145). -/
def HoldReason.waives : HoldReason → Bool
  | .manual | .queueTime | .interrupted | .runLimit => false
  | _ => true

/-- The place of a bin group: A to D are 0 to 3. -/
def BinGroup.code : BinGroup → Nat
  | .a => 0
  | .b => 1
  | .c => 2
  | .d => 3

/-- The four groups in order. -/
def BinGroup.all : List BinGroup := [.a, .b, .c, .d]

/-- The group of a place. -/
def BinGroup.ofCode? (n : Nat) : Option BinGroup := BinGroup.all.find? (fun g => g.code = n)

/-- The value a `PerGroup` holds for a group. -/
def PerGroup.get {α : Type} (p : PerGroup α) : BinGroup → α
  | .a => p.a
  | .b => p.b
  | .c => p.c
  | .d => p.d

/-- A `PerGroup` with one group's value changed. -/
def PerGroup.update {α : Type} (p : PerGroup α) (g : BinGroup) (f : α → α) : PerGroup α :=
  match g with
  | .a => { p with a := f p.a }
  | .b => { p with b := f p.b }
  | .c => { p with c := f p.c }
  | .d => { p with d := f p.d }

/-- The sum over the groups. -/
def PerGroup.total (p : PerGroup Nat) : Nat := p.a + p.b + p.c + p.d

/-- The value of a function at each group. -/
def PerGroup.ofFn {α : Type} (f : BinGroup → α) : PerGroup α := ⟨f .a, f .b, f .c, f .d⟩

/-- The bit of a temperature class in a capability. -/
def capabilityBit : TempClass → Nat
  | .cold => 0
  | .room => 1
  | .hot => 2

/-- The temperature class of a setpoint (R26). -/
def classOf (setpoint : Int) : TempClass :=
  if setpoint ≤ 10 then .cold else if setpoint ≤ 39 then .room else .hot

/-! ### State names and their codes -/

/-- The name of a lot state. -/
def LotState.name : LotState → LotStateName
  | .queued _ => .queued
  | .reserved _ _ _ => .reserved
  | .running _ _ => .running
  | .draining _ _ _ => .draining
  | .held => .held
  | .complete _ => .complete
  | .released => .released
  | .scrapped => .scrapped

/-- The name of a cell state. -/
def Cell.name : Cell → CellName
  | .offline => .offline
  | .idle => .idle
  | .preparing _ => .preparing
  | .ready _ => .ready
  | .running _ _ => .running
  | .draining _ _ => .draining

/-- The name of a staged slot's state. -/
def StagedState.name : StagedState → StagedName
  | .loading => .loading
  | .loaded => .loaded
  | .fault _ => .fault

/-- The code of a lot state (R175). -/
def LotStateName.code : LotStateName → Nat
  | .queued => 0
  | .reserved => 1
  | .running => 2
  | .draining => 3
  | .held => 4
  | .complete => 5
  | .released => 6
  | .scrapped => 7

/-- The code of a cell state (R175). -/
def CellName.code : CellName → Nat
  | .offline => 0
  | .idle => 1
  | .preparing => 2
  | .ready => 3
  | .running => 4
  | .draining => 5

/-- The code of a thermal state (R175). -/
def Thermal.code : Thermal → Nat
  | .unknown => 0
  | .ramping => 1
  | .soaking => 2
  | .atTemp => 3

/-- The code of a staged slot state (R175). -/
def StagedName.code : StagedName → Nat
  | .empty => 0
  | .loading => 1
  | .loaded => 2
  | .fault => 3

/-- The code of a result. -/
def Result.code : Result → Nat
  | .ok => 0
  | .empty => 1
  | .duplicate => 2
  | .notPermitted => 3
  | .unknownKind => 4
  | .badFormat => 5
  | .noSuchLot => 6
  | .noSuchEntry => 7
  | .wrongState => 8
  | .tableFull => 9
  | .inUse => 10
  | .locked => 11
  | .lotHeld => 12
  | .busy => 13
  | .tooLate => 14
  | .outOfSequence => 15
  | .mismatch => 16
  | .notReleased => 17

/-! ### Request kinds -/

/-- The 52 request kinds of the kind-code table. -/
inductive Kind where
  | stationEnroll | stationRemove | attentionRead | attentionMask | timeSet | partStatus | lotRegister |
  lotQuery | lotScan | lotPurge | lotEnd | productDefine | productRemove | productQuery | programDefine |
  programWithdraw | programRemove | programQuery | callWork | lotBegin | lotPriority | queueQuery |
  dispatchConfig | handlerConfig | handlerOnline | handlerOffline | dock | undock | kitInstalled | tempReached
  | tempLost | handlerLock | handlerUnlock | cellStatus | testerConfig | testerQuery | stageProgram |
  programLoaded | stageAbort | deviationSet | deviationClear | deviationQuery | touchdown | siteEnable |
  yieldQuery | lotHold | lotDispose | drained | lotEndorse | endorseWithdraw | shipCollect | releaseQuery
deriving DecidableEq, Repr

/-- The code of a kind. -/
def Kind.code : Kind → Nat
  | .stationEnroll => 1
  | .stationRemove => 2
  | .attentionRead => 3
  | .attentionMask => 4
  | .timeSet => 5
  | .partStatus => 6
  | .lotRegister => 8
  | .lotQuery => 9
  | .lotScan => 10
  | .lotPurge => 11
  | .lotEnd => 12
  | .productDefine => 16
  | .productRemove => 17
  | .productQuery => 18
  | .programDefine => 19
  | .programWithdraw => 20
  | .programRemove => 21
  | .programQuery => 22
  | .callWork => 24
  | .lotBegin => 25
  | .lotPriority => 26
  | .queueQuery => 27
  | .dispatchConfig => 28
  | .handlerConfig => 32
  | .handlerOnline => 33
  | .handlerOffline => 34
  | .dock => 35
  | .undock => 36
  | .kitInstalled => 37
  | .tempReached => 38
  | .tempLost => 39
  | .handlerLock => 40
  | .handlerUnlock => 41
  | .cellStatus => 42
  | .testerConfig => 44
  | .testerQuery => 45
  | .stageProgram => 46
  | .programLoaded => 47
  | .stageAbort => 48
  | .deviationSet => 49
  | .deviationClear => 50
  | .deviationQuery => 51
  | .touchdown => 52
  | .siteEnable => 53
  | .yieldQuery => 54
  | .lotHold => 55
  | .lotDispose => 56
  | .drained => 57
  | .lotEndorse => 58
  | .endorseWithdraw => 59
  | .shipCollect => 60
  | .releaseQuery => 61

/-- The kinds in code order. -/
def Kind.all : List Kind :=
  [.stationEnroll, .stationRemove, .attentionRead, .attentionMask, .timeSet, .partStatus, .lotRegister,
   .lotQuery, .lotScan, .lotPurge, .lotEnd, .productDefine, .productRemove, .productQuery, .programDefine,
   .programWithdraw, .programRemove, .programQuery, .callWork, .lotBegin, .lotPriority, .queueQuery,
   .dispatchConfig, .handlerConfig, .handlerOnline, .handlerOffline, .dock, .undock, .kitInstalled,
   .tempReached, .tempLost, .handlerLock, .handlerUnlock, .cellStatus, .testerConfig, .testerQuery,
   .stageProgram, .programLoaded, .stageAbort, .deviationSet, .deviationClear, .deviationQuery, .touchdown,
   .siteEnable, .yieldQuery, .lotHold, .lotDispose, .drained, .lotEndorse, .endorseWithdraw, .shipCollect,
   .releaseQuery]

/-- The kind of a code; none for the codes that are not kinds. -/
def Kind.ofCode? (n : Nat) : Option Kind := Kind.all.find? (fun k => k.code = n)

/-- The role check column of the kind-code table. -/
inductive RoleCheck where
  /-- any enrolled station -/
  | any
  /-- a station holding one of the roles, checked by the Link Interface -/
  | roles (rs : List Role)
  /-- the owning block makes the check -/
  | block
deriving DecidableEq, Repr

/-- The role check of a kind. -/
def Kind.roleCheck : Kind → RoleCheck
  | .stationEnroll => .roles [.supervisor]
  | .stationRemove => .roles [.supervisor]
  | .attentionRead => .any
  | .attentionMask => .any
  | .timeSet => .roles [.supervisor]
  | .partStatus => .any
  | .lotRegister => .roles [.floor]
  | .lotQuery => .any
  | .lotScan => .any
  | .lotPurge => .roles [.floor]
  | .lotEnd => .roles [.cell]
  | .productDefine => .roles [.supervisor, .engineering]
  | .productRemove => .roles [.supervisor, .engineering]
  | .productQuery => .any
  | .programDefine => .roles [.engineering]
  | .programWithdraw => .roles [.engineering, .quality]
  | .programRemove => .roles [.engineering]
  | .programQuery => .any
  | .callWork => .roles [.cell]
  | .lotBegin => .roles [.cell]
  | .lotPriority => .roles [.floor]
  | .queueQuery => .any
  | .dispatchConfig => .roles [.supervisor]
  | .handlerConfig => .block
  | .handlerOnline => .roles [.cell]
  | .handlerOffline => .roles [.cell, .floor, .supervisor]
  | .dock => .block
  | .undock => .block
  | .kitInstalled => .roles [.cell]
  | .tempReached => .roles [.cell]
  | .tempLost => .roles [.cell]
  | .handlerLock => .roles [.engineering, .supervisor]
  | .handlerUnlock => .block
  | .cellStatus => .any
  | .testerConfig => .block
  | .testerQuery => .any
  | .stageProgram => .roles [.engineering]
  | .programLoaded => .roles [.cell, .engineering]
  | .stageAbort => .roles [.engineering, .floor, .cell]
  | .deviationSet => .roles [.engineering]
  | .deviationClear => .roles [.engineering, .supervisor]
  | .deviationQuery => .any
  | .touchdown => .roles [.cell]
  | .siteEnable => .block
  | .yieldQuery => .any
  | .lotHold => .block
  | .lotDispose => .block
  | .drained => .roles [.cell]
  | .lotEndorse => .block
  | .endorseWithdraw => .any
  | .shipCollect => .roles [.dock]
  | .releaseQuery => .any

end Sys2Proof.Machine
end

