-- ==== Sys2Proof/Machine/Tables.lean ====
section
/-! DEFINITION. Machine/Tables.lean: reading and writing the tables of the part by index, slot, id or number. -/

namespace Sys2Proof.Machine

/-! ### Fixed tables -/

/-- Every record of a table through a function. -/
def vecMap {α β : Type} {n : Nat} (f : α → β) (v : Vector α n) : Vector β n := ⟨⟨v.toList.map f⟩, by simp⟩

/-- The table that holds `f i` at index `i`. -/
def vecOfFn {α : Type} {n : Nat} (f : Fin n → α) : Vector α n := ⟨⟨List.ofFn f⟩, by simp⟩

/-- The lowest index at which `p` holds. -/
def lowestIndex {n : Nat} (p : Fin n → Bool) : Option (Fin n) := (List.finRange n).find? p

/-- The number of indexes at which `p` holds. -/
def countIndexes {n : Nat} (p : Fin n → Bool) : Nat := (List.finRange n).countP p

/-- The index of a number counted from 1, when it is within the table (R68: H1 to H16). -/
def indexOfNumber? (n size : Nat) : Option (Fin size) := if h : 1 ≤ n ∧ n ≤ size then some ⟨n - 1, by omega⟩ else none

/-- The index of a number counted from 0, when it is within the table. -/
def index? (n size : Nat) : Option (Fin size) := if h : n < size then some ⟨n, h⟩ else none

/-- The number, counted from 1, of an index. -/
def number {n : Nat} (i : Fin n) : Nat := i.val + 1

/-! ### Handlers, testers, stations -/

/-- The state with one handler record changed. -/
def State.updHandler (s : State) (h : HandlerId) (f : Handler → Handler) : State :=
  { s with handlers := s.handlers.set h (f s.handlers[h]) }

/-- The state with one tester record changed. -/
def State.updTester (s : State) (t : TesterId) (f : Tester → Tester) : State :=
  { s with testers := s.testers.set t (f s.testers[t]) }

/-- The state with one station entry changed. -/
def State.updStation (s : State) (i : StationId) (f : Station → Station) : State :=
  { s with stations := s.stations.set i (f s.stations[i]) }

/-- The state with one deviation entry changed. -/
def State.updDeviation (s : State) (d : DevId) (f : Option Deviation → Option Deviation) : State :=
  { s with deviations := s.deviations.set d (f s.deviations[d]) }

/-- The roles of a station. -/
def State.rolesOf (s : State) (i : StationId) : RoleSet := s.stations[i].roles

/-- The current lot of a cell. -/
def Cell.current : Cell → Option Slot
  | .running c _ => some c
  | .draining c _ => some c
  | _ => none

/-- The reserved lot of a cell. -/
def Cell.reserved : Cell → Option Slot
  | .preparing r => some r
  | .ready r => some r
  | .running _ r => r
  | .draining _ r => r
  | _ => none

/-- The cell is OFFLINE or IDLE. -/
def Cell.outOfWork : Cell → Bool
  | .offline => true
  | .idle => true
  | _ => false

/-- The sites of an enable set, in order. -/
def sitesOf (b : BitVec 8) : List SiteIx := (List.finRange 8).filter (fun i => b.getLsbD i.val)

/-- The site enable set of a handler; an unconfigured handler has no site (R69). -/
def Handler.sites (h : Handler) : BitVec 8 :=
  match h.config with
  | some c => c.sitesEnabled
  | none => 0

/-- The capability of a handler names a class; an unconfigured handler's is empty (R69). -/
def Handler.capable (h : Handler) (c : TempClass) : Bool :=
  match h.config with
  | some k => k.capability.getLsbD (capabilityBit c)
  | none => false

/-! ### Lots -/

/-- The lot in a slot. -/
def State.lot? (s : State) (k : Slot) : Option Lot := s.lots.find? (fun l => l.slot = k)

/-- The lot of an id (R2). -/
def State.lotNamed? (s : State) (id : Text) : Option Lot := s.lots.find? (fun l => l.id = id)

/-- The state with the lot of one slot changed. -/
def State.updLot (s : State) (k : Slot) (f : Lot → Lot) : State :=
  { s with lots := s.lots.map (fun l => if l.slot = k then f l else l) }

/-- A list of lots in slot order with one lot more. -/
def insertLot (l : Lot) : List Lot → List Lot
  | [] => [l]
  | x :: xs => if l.slot < x.slot then l :: x :: xs else x :: insertLot l xs

/-- The state with a lot placed in its slot. -/
def State.addLot (s : State) (l : Lot) : State := { s with lots := insertLot l s.lots }

/-- The state with a slot freed: the record is discarded whole (R1, R21). -/
def State.dropLot (s : State) (k : Slot) : State := { s with lots := s.lots.filter (fun l => l.slot ≠ k) }

/-- The lowest-numbered free slot (R1). -/
def State.freeSlot? (s : State) : Option Slot := lowestIndex (fun k => (s.lot? k).isNone)

/-- The number of a lot's current step, which equals its number of step records (R3). -/
def Lot.stepNumber (l : Lot) : Nat := l.past.length + 1

/-- The step records in step order (R7). -/
def Lot.steps (l : Lot) : List StepRecord := l.past ++ [l.cur]

/-- A step is closed when it holds a close time (R7). -/
def StepRecord.closed (r : StepRecord) : Bool := r.closeTime.isSome

/-- A lot's hold set holds a reason. -/
def Lot.hasHold (l : Lot) (r : HoldReason) : Bool := l.holds.any (fun e => e.reason = r)

/-- The lot's entry of a reason. -/
def Lot.holdOf? (l : Lot) (r : HoldReason) : Option HoldEntry := l.holds.find? (fun e => e.reason = r)

/-- The run in progress of a lot (R10). -/
def Lot.runInProgress (l : Lot) : Option RunEntry := l.cur.runs.find? (fun r => r.endTime.isNone)

/-- The state with the state of one lot changed. -/
def State.setLotState (s : State) (k : Slot) (x : LotState) : State := s.updLot k (fun l => { l with state := x })

/-- The queue fields of a lot that has them (R4). -/
def LotState.wait? : LotState → Option Wait
  | .queued w => some w
  | .reserved w _ _ => some w
  | _ => none

/-- The resolved program of a lot that has one (R4). -/
def LotState.resolved? : LotState → Option Resolved
  | .reserved _ _ r => some r
  | .running _ r => some r
  | .draining _ r _ => some r
  | _ => none

/-- The reserved handler of a lot that has one (R4). -/
def LotState.reservedHandler? : LotState → Option HandlerId
  | .reserved _ h _ => some h
  | _ => none

/-- The current handler of a lot that has one (R4). -/
def LotState.currentHandler? : LotState → Option HandlerId
  | .running h _ => some h
  | .draining h _ _ => some h
  | _ => none

/-- The drain cause of a lot that has one (R4). -/
def LotState.drainCause? : LotState → Option HoldReason
  | .draining _ _ c => some c
  | _ => none

/-- The release-waiting stamp of a lot that has one (R4). -/
def LotState.waiting? : LotState → Option Nat
  | .complete w => w
  | _ => none

/-! ### Products and routes -/

/-- The step that a lot reads when its route has none of its number.  R12 and R29 keep every lot's route in place, so no
run reads it; it makes the reading total (`notes/assumptions/13.md`). -/
def RouteStep.blank : RouteStep :=
  { setpoint := 0, soak := 0, program := ⟨0, 0⟩, kit := 0, goodBins := 0, groupOf := Vector.replicate 16 .a, yieldLow := 0
    hysteresis := 0, minSample := 1, window := 16, windowLow := 0, groupLimit := ⟨1000, 1000, 1000, 1000⟩, disparity := 0
    queueLimit := 0, tolerance := 0 }

/-- The steps of a lot's route, read from the active route of its product (R12). -/
def State.routeOf (s : State) (l : Lot) : List RouteStep :=
  match s.products[l.product].active with
  | some r => r.steps
  | none => []

/-- The route step of a lot's current step. -/
def State.stepOf (s : State) (l : Lot) : RouteStep := ((s.routeOf l)[l.stepNumber - 1]?).getD RouteStep.blank

/-- Steps remain on the route after the lot's current one. -/
def State.stepsRemain (s : State) (l : Lot) : Bool := l.stepNumber < (s.routeOf l).length

/-- The entry state (R23). -/
def ProductEntry.state (p : ProductEntry) : ProductState :=
  match p.active, p.draft with
  | none, none => .free
  | none, some _ => .draft
  | some _, none => .defined
  | some _, some _ => .redefining

/-- The lot count of a product (R29). -/
def State.lotCount (s : State) (p : ProductIx) : Nat := s.lots.countP (fun l => l.product = p)

/-- The deviation count of a product (R29). -/
def State.deviationCount (s : State) (p : ProductIx) : Nat :=
  countIndexes (fun d : DevId => (s.deviations[d]).any (fun e => e.product = p))

/-- A product entry is in use (R29). -/
def State.productInUse (s : State) (p : ProductIx) : Bool := s.lotCount p ≠ 0 || s.deviationCount p ≠ 0

/-- The entry whose active code is the code given (R24). -/
def State.activeProduct? (s : State) (code : Text) : Option ProductIx :=
  lowestIndex (fun i : ProductIx => (s.products[i].active).any (fun r => r.code = code))

/-- An entry holds a code, as an active code or as a pending code (R24). -/
def ProductEntry.holdsCode (p : ProductEntry) (code : Text) : Bool :=
  p.active.any (fun r => r.code = code) || p.draft.any (fun d => d.code = code)

/-! ### The program library -/

/-- The library entry that holds a program revision. -/
def State.libraryIndex? (s : State) (p : Program) : Option LibIx :=
  lowestIndex (fun i : LibIx => (s.library[i]).any (fun e => e.program = p))

/-- The content of the library entry that holds a program revision. -/
def State.revision? (s : State) (p : Program) : Option LibraryEntry := (s.libraryIndex? p).bind (fun i => s.library[i])

/-- A revision is in the library in state RELEASED (R35). -/
def State.isReleased (s : State) (p : Program) : Bool := (s.revision? p).any (fun e => e.withdrawal.isNone)

/-- The load estimate E of a revision. -/
def State.estimateOf (s : State) (p : Program) : Nat := ((s.revision? p).map (·.estimate)).getD 0

/-- The library state of a revision as a query finds it (R90). -/
def State.libraryStateOf (s : State) (p : Program) : LibraryState :=
  match s.revision? p with
  | some e => if e.withdrawal.isNone then .released else .withdrawn
  | none => .absent

/-- A tester's active slot names a program. -/
def Tester.activeHolds (t : Tester) (p : Program) : Bool := t.active.any (fun a => a.program = p)

/-- A tester's staged slot in LOADING or LOADED names a program (R87). -/
def Tester.stagedHolds (t : Tester) (p : Program) : Bool :=
  t.staged.any (fun g => g.program = p && (g.state = .loading || g.state = .loaded))

/-- A program is at hand on a tester (R88). -/
def Tester.atHand (t : Tester) (p : Program) : Bool :=
  t.active.any (fun a => a.program = p && !a.withdrawn) || t.staged.any (fun g => g.program = p && g.state = .loaded)

/-- A staged slot is LOADING. -/
def Tester.loading (t : Tester) : Bool := t.staged.any (fun g => g.state = .loading)

/-! ### Views: the dispatch queues and the release-waiting list -/

/-- The queue stamp of a lot that has one, for ordering. -/
def Lot.stamp (l : Lot) : Nat := ((l.state.wait?).map (·.stamp)).getD 0

/-- The release-waiting stamp of a lot that has one, for ordering. -/
def Lot.waitingStamp (l : Lot) : Nat := (l.state.waiting?).getD 0

/-- The order of a dispatch queue: priority class, then queue stamp, then slot (R41). -/
def queueLe (a b : Lot) : Bool :=
  a.priority < b.priority || (a.priority = b.priority &&
    (a.stamp < b.stamp || (a.stamp = b.stamp && a.slot ≤ b.slot)))

/-- A lot is QUEUED. -/
def Lot.isQueued (l : Lot) : Bool :=
  match l.state with
  | .queued _ => true
  | _ => false

/-- The dispatch queue of a class: the QUEUED lots whose current step is of the class, in queue order (R41). -/
def State.queue (s : State) (c : TempClass) : List Lot :=
  (s.lots.filter (fun l => l.isQueued && classOf (s.stepOf l).setpoint = c)).insertionSort (fun a b => queueLe a b = true)

/-- The place of a lot in the queue of its class, counted from 0. -/
def State.queuePosition (s : State) (l : Lot) : Nat :=
  (s.queue (classOf (s.stepOf l).setpoint)).findIdx (fun x => x.slot = l.slot)

/-- The order of the release-waiting list: stamp, then slot (R158). -/
def waitingLe (a b : Lot) : Bool :=
  a.waitingStamp < b.waitingStamp || (a.waitingStamp = b.waitingStamp && a.slot ≤ b.slot)

/-- The release-waiting list, oldest first (R158). -/
def State.waitingList (s : State) : List Lot :=
  (s.lots.filter (fun l => l.state.waiting?.isSome)).insertionSort (fun a b => waitingLe a b = true)

end Sys2Proof.Machine
end

