-- ==== Sys2Proof/Machine/Frame.lean ====
section
/-! DEFINITION. Machine/Frame.lean: the frame on the floor link as levels of the line: fields most significant bit first,
the check byte, bit stuffing, and what a receiver makes of the levels it reads (R167 to R171).

A level is a Bool: `false` is dominant (0), `true` is recessive (1). -/

namespace Sys2Proof.Machine

/-! ### Fields and check byte (R168, R169) -/

/-- A number as `n` bits, most significant bit first (R168). -/
def bitsOf (n w : Nat) : List Bool := (List.range n).map (fun i => w.testBit (n - 1 - i))

/-- The number that bits stand for, most significant bit first. -/
def numberOf (bs : List Bool) : Nat := bs.foldl (fun a b => 2 * a + b.toNat) 0

/-- The bits of a payload, first byte first. -/
def payloadBits (bytes : List Byte) : List Bool := bytes.flatMap (fun b => bitsOf 8 b.toNat)

/-- The first `n` bytes that bits stand for. -/
def bytesOf : Nat → List Bool → List Byte
  | 0, _ => []
  | n + 1, bs => BitVec.ofNat 8 (numberOf (bs.take 8)) :: bytesOf n (bs.drop 8)

/-- One step of the division by x⁸ + x² + x + 1 (R169). -/
def crcStep (c : Byte) (b : Bool) : Byte := if c.msb != b then (c <<< 1) ^^^ 0x07#8 else c <<< 1

/-- The check byte of a bit string: the remainder of the string followed by eight 0 bits, from a remainder of 0 (R169). -/
def checkByte (bs : List Bool) : Byte := bs.foldl crcStep 0

/-- The bits from the sender field to the last bit of the payload, over which the check byte is computed (R168, R169). -/
def checkedBits (sender receiver kind tag : Nat) (payload : List Byte) : List Bool :=
  bitsOf 5 sender ++ bitsOf 5 receiver ++ bitsOf 6 kind ++ bitsOf 4 tag ++ bitsOf 6 payload.length ++ payloadBits payload

/-- A frame's bits from the start bit to the last bit of the check byte, without inserted bits (R168). -/
def frameBits (priority : Bool) (sender receiver kind tag : Nat) (payload : List Byte) : List Bool :=
  false :: priority :: (checkedBits sender receiver kind tag payload ++
    bitsOf 8 (checkByte (checkedBits sender receiver kind tag payload)).toNat)

/-! ### Inserted bits (R167) -/

/-- The bits after `run` equal bits of the level `last`, with a bit of the opposite level inserted after each run of five; the
inserted bit is the first of the next run. -/
def stuffFrom (last : Bool) (run : Nat) : List Bool → List Bool
  | [] => if run = 5 then [!last] else []
  | b :: bs =>
    if run = 5 then (!last) :: b :: stuffFrom b (if b = !last then 2 else 1) bs
    else b :: stuffFrom b (if b = last then run + 1 else 1) bs

/-- The levels a sender puts on the line for the bits from the start bit to the last bit of the check byte. -/
def stuff : List Bool → List Bool
  | [] => []
  | b :: bs => b :: stuffFrom b 1 bs

/-- The levels of a whole frame on the line, up to the acknowledge slot. -/
def lineLevels (priority : Bool) (sender receiver kind tag : Nat) (payload : List Byte) : List Bool :=
  stuff (frameBits priority sender receiver kind tag payload)

/-! ### Receiving (R171) -/

/-- A receiver in the middle of a frame: the levels still to come, and the run of equal bits it has just read. -/
structure LineReader where
  rest : List Bool
  last : Bool
  run : Nat
deriving DecidableEq, Repr

/-- The next bit of the frame, inserted bits removed.  None when six equal bits stand where a bit must be inserted, or when
the levels end: the line has gone idle (R167, R171). -/
def LineReader.next (r : LineReader) : Option (Bool × LineReader) :=
  if r.run = 5 then
    match r.rest with
    | i :: b :: rest => if i = r.last then none else some (b, ⟨rest, b, if b = i then 2 else 1⟩)
    | _ => none
  else
    match r.rest with
    | b :: rest => some (b, ⟨rest, b, if b = r.last then r.run + 1 else 1⟩)
    | [] => none

/-- The next `n` bits of the frame. -/
def LineReader.take : Nat → LineReader → Option (List Bool × LineReader)
  | 0, r => some ([], r)
  | n + 1, r =>
    match r.next with
    | none => none
    | some (b, r1) =>
      match r1.take n with
      | none => none
      | some (bs, r2) => some (b :: bs, r2)

/-- After the last bit of the check byte: a run of five is followed by an inserted bit as well, and a sixth equal level makes
the frame bad. A line that has gone idle reads recessive (R167). -/
def LineReader.endsIll (r : LineReader) : Bool := r.run = 5 && r.rest.headD true = r.last

/-- What the part makes of the levels of one frame. -/
inductive Reception where
  /-- not addressed to node 0, or no frame -/
  | ignored
  /-- a bad frame addressed to node 0 -/
  | bad
  | good (f : Frame)
deriving DecidableEq, Repr

/-- The kind, tag, length, payload and check byte of a frame addressed to node 0, whose priority and sender bits are `head`
(R171: a length above 48, a check byte that does not match, a cut-off frame, six equal bits, and sender 0 make it bad). -/
def receiveBody (head : List Bool) (r : LineReader) : Reception :=
  match r.take 16 with
  | none => .bad
  | some (mid, r1) =>
    let length := numberOf (mid.drop 10)
    if Config.payloadMax < length then .bad
    else
      match r1.take (8 * length + 8) with
      | none => .bad
      | some (tail, r2) =>
        let payload := tail.take (8 * length)
        let check := BitVec.ofNat 8 (numberOf (tail.drop (8 * length)))
        if r2.endsIll || checkByte (head.drop 1 ++ mid ++ payload) ≠ check then .bad
        else
          match indexOfNumber? (numberOf ((head.drop 1).take 5)) 31 with
          | none => .bad
          | some sender =>
            .good { priority := head.headD false
                    sender := sender
                    kind := numberOf (mid.take 6)
                    tag := Fin.ofNat 16 (numberOf ((mid.drop 6).take 4))
                    payload := bytesOf length payload }

/-- What the part makes of the levels it reads from a start bit on (R171).  A frame that ends or is ill stuffed before its
receiver field is whole is not known to be addressed to node 0 and is ignored (DEDUCED, `notes/assumptions/11.md`). -/
def receive : List Bool → Reception
  | false :: levels =>
    match (LineReader.mk levels false 1).take 11 with
    | none => .ignored
    | some (head, r) => if numberOf (head.drop 6) ≠ 0 then .ignored else receiveBody head r
  | _ => .ignored

end Sys2Proof.Machine
end

