-- ==== Sys2Proof/Machine/Layout.lean ====
section
/-! DEFINITION. Machine/Layout.lean: the payload layouts that R173, R175, R180, R181 and R183 state, as bytes. The manual
gives no byte layout for the other exchanges (`notes/assumptions/2.md`, `notes/assumptions/8.md`). -/

namespace Sys2Proof.Machine

/-- A number as `n` bytes, most significant byte first (R175). -/
def numberBytes (n w : Nat) : List Byte := (List.range n).map (fun i => BitVec.ofNat 8 (w >>> (8 * (n - 1 - i))))

/-- The number that bytes stand for, most significant byte first (R175). -/
def bytesNumber (bs : List Byte) : Nat := bs.foldl (fun a b => 256 * a + b.toNat) 0

/-- A lot id as sent: its length, then its characters (R175). -/
def lotIdBytes (t : Text) : List Byte := BitVec.ofNat 8 t.length :: t

/-- A setpoint byte: the setpoint plus 64; 0 when absent (R175). -/
def setpointByte (t : Option Int) : Byte :=
  match t with
  | some t => BitVec.ofInt 8 (t + 64)
  | none => 0

/-! ### Requests -/

/-- The payload of LOT_REGISTER (R175). -/
def lotRegisterBytes (lot product : Text) (quantity priority : Nat) : List Byte :=
  lotIdBytes lot ++ product ++ numberBytes 3 quantity ++ numberBytes 1 priority

/-- The content of a LOT_REGISTER payload; none when its length does not fit the layout (R175). -/
def readLotRegister : List Byte → Option (Text × Text × Nat × Nat)
  | [] => none
  | n :: rest =>
    if rest.length = n.toNat + 12 then
      some (rest.take n.toNat, (rest.drop n.toNat).take 8, bytesNumber ((rest.drop (n.toNat + 8)).take 3),
        bytesNumber (rest.drop (n.toNat + 11)))
    else none

/-- The payload of TOUCHDOWN (R175). -/
def touchdownBytes (lot : Text) (index : BitVec 16) (results : List Nat) : List Byte :=
  lotIdBytes lot ++ numberBytes 2 index.toNat ++ results.map (BitVec.ofNat 8)

/-- The content of a TOUCHDOWN payload; none when its length does not fit the layout: 1 to 8 results (R175). -/
def readTouchdown : List Byte → Option (Text × BitVec 16 × List Nat)
  | [] => none
  | n :: rest =>
    if n.toNat + 3 ≤ rest.length && rest.length ≤ n.toNat + 10 then
      some (rest.take n.toNat, BitVec.ofNat 16 (bytesNumber ((rest.drop n.toNat).take 2)),
        (rest.drop (n.toNat + 2)).map (·.toNat))
    else none

/-- The content of a TIME_SET payload: 4 bytes (R183). -/
def readTimeSet (bs : List Byte) : Option Time := if bs.length = 4 then some (BitVec.ofNat 32 (bytesNumber bs)) else none

/-- The content of an ATTENTION_MASK payload: none, or two bytes (R181). -/
def readAttentionMask (bs : List Byte) : Option (Option (BitVec 16)) :=
  if bs.isEmpty then some none
  else if bs.length = 2 then some (some (BitVec.ofNat 16 (bytesNumber bs)))
  else none

/-- The content of a payload that must be empty (R180, R184). -/
def readEmpty (bs : List Byte) : Option Unit := if bs.isEmpty then some () else none

/-- A request with the content and fit given is a reading of a payload under a stated layout. -/
def readsAs {α : Type} [DecidableEq α] (read : List Byte → Option α) (fits : Bool) (content : α) (payload : List Byte) : Bool :=
  match read payload with
  | some x => fits && x = content
  | none => !fits

/-- A kind whose byte layout the manual does not give: any payload may read as the content given. -/
def anyPayload (_ : List Byte) : Bool := true

/-! ### Answers -/

/-- Byte 0 of every response: the result code in bits 0 to 4, the attention bit in bit 7 (R173). -/
def firstByte (r : Result) (attention : Bool) : Byte := BitVec.ofNat 8 (r.code + if attention then 128 else 0)

/-- A release record from byte 1 on (R175). -/
def releaseRecordBytes (r : ReleaseRecord) : List Byte :=
  BitVec.ofNat 8 r.slot.val :: (lotIdBytes r.lot ++ r.product ++ numberBytes 3 r.quantity ++ numberBytes 4 r.time.toNat ++
    BitVec.ofNat 8 r.endorsers.length :: r.endorsers.map (fun e => BitVec.ofNat 8 (number e.1 + 32 * e.2.code)))

/-- The lot id of an answer, of length 0 when absent (R175). -/
def optionalLotBytes (t : Option Text) : List Byte :=
  match t with
  | some t => lotIdBytes t
  | none => [0]

/-- A CELL_STATUS answer for STATUS, from byte 1 on (R175). -/
def cellStatusBytes (c : CellStatus) : List Byte :=
  let staged := c.staging.bind (·.2)
  [BitVec.ofNat 8 (c.cell.code + 16 * c.thermal.code + 64 * c.stop.toNat + 128 * c.stalled.toNat), c.sitesEnabled,
   setpointByte c.target, BitVec.ofNat 8 (c.requiredKit.getD 255), BitVec.ofNat 8 ((staged.map (·.id)).getD 0),
   BitVec.ofNat 8 ((staged.map (·.revision)).getD 0), BitVec.ofNat 8 ((c.staging.map (·.1.code)).getD 255)] ++
  numberBytes 2 (c.nextIndex.getD Config.absentIndex).toNat ++ [BitVec.ofNat 8 c.nextIndex.isSome.toNat] ++
  optionalLotBytes c.currentLot ++ optionalLotBytes c.reservedLot

/-- The attention kinds whose marks carry units: codes 0 to 8 (R177, R180). -/
def AttentionKind.carriesUnits (k : AttentionKind) : Bool := k.code ≤ 8

/-- The set of kinds marked in an attention set. -/
def markedKinds (ms : List Mark) : KindSet := KindSet.ofList (ms.map (·.kind))

/-- An ATTENTION_READ answer from byte 1 on: the marked kinds, then the unit set of each marked kind of code 0 to 8 (R180). -/
def attentionBytes (ms : List Mark) : List Byte :=
  numberBytes 2 (markedKinds ms).toNat ++
    (ms.filter (fun m => m.kind.carriesUnits)).flatMap (fun m => numberBytes 2 m.units.toNat)

/-- A TOUCHDOWN answer from byte 1 on (R175). -/
def touchdownAnswerBytes (counted : Nat) (saturated : Bool) (nextIndex : BitVec 16) (cell : CellName)
    (site : Option SiteIx) (placed : List HoldReason) (lookahead : Option Text) : List Byte :=
  [BitVec.ofNat 8 (counted + 128 * saturated.toNat)] ++ numberBytes 2 nextIndex.toNat ++
  [BitVec.ofNat 8 cell.code, BitVec.ofNat 8 ((site.map number).getD 0), BitVec.ofNat 8 placed.length] ++
  placed.map (fun r => BitVec.ofNat 8 r.code) ++ optionalLotBytes lookahead

/-- What an answer's content is in bytes from byte 1 on, where the manual states the layout. -/
def Body.bytes? : Body → Option (List Byte)
  | .nothing => some []
  | .registered slot stamp => some (BitVec.ofNat 8 slot.val :: numberBytes 4 stamp)
  | .touchdown counted saturated nextIndex cell site placed lookahead =>
    some (touchdownAnswerBytes counted saturated nextIndex cell site placed lookahead)
  | .cellStatus c => some (cellStatusBytes c)
  | .shipped r => some (releaseRecordBytes r)
  | .releaseRecord r position => some (releaseRecordBytes r ++ [BitVec.ofNat 8 position])
  | .attention ms => some (attentionBytes ms)
  | _ => none

/-- The payload of a response, where the manual states its layout (R173, R175, R180). -/
def Response.payload? (r : Response) : Option (List Byte) := (r.body.bytes?).map (fun bs => firstByte r.result r.attention :: bs)

/-- The levels of a response frame on the line, where the manual states its payload's layout: priority 0, sender 0, and the
receiver, kind and tag of the request it answers (R168). -/
def Response.levels? (r : Response) : Option (List Bool) :=
  r.payload?.map (fun p => lineLevels false 0 (number r.receiver) r.kind r.tag.val p)

end Sys2Proof.Machine
end

