-- ==== Sys2Proof/Machine/Flags.lean ====
section
/-! DEFINITION. Machine/Flags.lean: the figures in permille that the Yield Guard computes from counts, and the conditions
its four checks test (R115 to R124). -/

namespace Sys2Proof.Machine

/-- A bin is in a step's good-bin set (R27, R107); bins are numbered 1 to 16. -/
def RouteStep.passes (st : RouteStep) (bin : Nat) : Bool := st.goodBins.getLsbD (bin - 1)

/-- The group a step's map gives for a bin (R27). -/
def RouteStep.groupOfBin (st : RouteStep) (bin : Nat) : BinGroup := (st.groupOf.toList[bin - 1]?).getD .a

/-- The cumulative yield Yc (R118). -/
def StepRecord.cumulative (r : StepRecord) : Nat := permille r.good r.tested

/-- The cumulative check is evaluated (R118). -/
def cumulativeDue (st : RouteStep) (r : StepRecord) : Bool := st.minSample ≤ r.tested

/-- YIELD_LOW trips (R118). -/
def yieldLowTrips (st : RouteStep) (r : StepRecord) : Bool :=
  cumulativeDue st r && r.armed && r.cumulative < st.yieldLow

/-- The cumulative check rearms (R118). -/
def cumulativeRearms (st : RouteStep) (r : StepRecord) : Bool :=
  cumulativeDue st r && !r.armed && st.yieldLow + st.hysteresis ≤ r.cumulative

/-- The fails in a window ring (R107). -/
def ringFails (ring : List Bool) : Nat := ring.countP (fun o => !o)

/-- The window yield Yw (R121). -/
def windowYield (st : RouteStep) (ring : List Bool) : Nat := permille (st.window - ringFails ring) st.window

/-- WINDOW_LOW trips (R121). -/
def windowLowTrips (st : RouteStep) (ring : List Bool) : Bool :=
  ring.length = st.window && st.windowLow ≠ 0 && windowYield st ring < st.windowLow

/-- The bin fraction Fg (R122). -/
def StepRecord.fraction (r : StepRecord) (g : BinGroup) : Nat := permille (r.fails.get g) r.tested

/-- A bin group has tripped (R122). -/
def groupTrips (st : RouteStep) (r : StepRecord) (g : BinGroup) : Bool :=
  st.groupLimit.get g < 1000 && st.groupLimit.get g < r.fraction g

/-- The bin groups that trip at an evaluation, bit 0 for A (R122). -/
def trippedGroups (st : RouteStep) (r : StepRecord) : BitVec 4 :=
  if st.minSample ≤ r.tested then
    BinGroup.all.foldl (fun m g => if groupTrips st r g then m ||| (1 <<< g.code : BitVec 4) else m) 0
  else 0

/-- COUNT_EXCESS is placed: tested is greater than quantity in (R115). -/
def countExceeds (r : StepRecord) : Bool := r.quantityIn < r.tested

/-- The site sample Ssite for n enabled sites (R123). -/
def siteSample (minSample n : Nat) : Nat := max 1 (minSample / n)

/-- A site's yield ys (R123). -/
def SiteCount.yield (c : SiteCount) : Nat := permille c.good c.tested

/-- The pooled counts of the enabled sites other than one (R123). -/
def othersOf (enabled : BitVec 8) (sites : Vector SiteCount 8) (i : SiteIx) : SiteCount :=
  ((sitesOf enabled).filter (fun j => j ≠ i)).foldl
    (fun acc j => { tested := acc.tested + sites[j].tested, good := acc.good + sites[j].good }) { tested := 0, good := 0 }

/-- The gap of a site, where it has one: it is enabled, and it and the others each reach the site sample (R123). -/
def siteGap? (minSample : Nat) (enabled : BitVec 8) (sites : Vector SiteCount 8) (i : SiteIx) : Option Int :=
  let sample := siteSample minSample (sitesOf enabled).length
  let others := othersOf enabled sites i
  if enabled.getLsbD i.val && sample ≤ sites[i].tested && sample ≤ others.tested then
    some ((others.yield : Int) - (sites[i].yield : Int))
  else none

/-- Of two sites with their gaps, the one with the larger gap; the earlier of equals. -/
def worse : Option (SiteIx × Int) → SiteIx × Int → Option (SiteIx × Int)
  | none, x => some x
  | some a, x => if a.2 < x.2 then some x else some a

/-- The enabled site with the largest gap, the lowest-numbered of those that share it, with its gap (R124). -/
def worstSite? (minSample : Nat) (enabled : BitVec 8) (sites : Vector SiteCount 8) : Option (SiteIx × Int) :=
  ((sitesOf enabled).filterMap (fun i => (siteGap? minSample enabled sites i).map (fun g => (i, g)))).foldl worse none

/-- The site that the disparity check removes, if any (R123, R124). -/
def disparitySite? (st : RouteStep) (enabled : BitVec 8) (sites : Vector SiteCount 8) : Option SiteIx :=
  if st.disparity ≠ 0 && 2 ≤ (sitesOf enabled).length then
    match worstSite? st.minSample enabled sites with
    | some (i, g) => if (st.disparity : Int) < g then some i else none
    | none => none
  else none

end Sys2Proof.Machine
end

