-- ==== Sys2Proof/Machine/Operands.lean ====
section
/-! DEFINITION. Machine/Operands.lean: the checks a request's content passes before anything else (BAD_FORMAT, R175), the
values that are brought into range as they are stored (R28, R66, R70), and the two forms of a request that a CELL station
and a station of another role may both send (R172). -/

namespace Sys2Proof.Machine

/-- A character of a lot id or product code: 0x21 to 0x7E (R2, R24). -/
def charOk (c : Byte) : Bool := 0x21#8 ≤ c && c ≤ 0x7E#8

/-- A well-formed lot id: 1 to 16 characters (R2). -/
def lotIdOk (t : Text) : Bool := 1 ≤ t.length && t.length ≤ 16 && t.all charOk

/-- A well-formed product code: 8 characters (R24). -/
def productCodeOk (t : Text) : Bool := t.length = 8 && t.all charOk

/-- A value from `lo` to `hi`. -/
def within (lo hi n : Nat) : Bool := lo ≤ n && n ≤ hi

/-- A program id and revision from 1 to 255. -/
def programOk (programId revision : Nat) : Bool := within 1 255 programId && within 1 255 revision

/-- A setpoint from −55 to +175 °C. -/
def setpointOk (t : Int) : Bool := (-55 : Int) ≤ t && t ≤ 175

/-- A value brought into a range from both ends. -/
def clamp (lo hi n : Nat) : Nat := if n < lo then lo else if hi < n then hi else n

/-! ### The fields of a route step -/

/-- Every step field is in its given range, and the good-bin set is not empty (R25, R27, R30). -/
def stepGivenOk (g : StepGiven) : Bool :=
  setpointOk g.setpoint && within 0 65535 g.soak && programOk g.programId g.revision && within 0 63 g.kit &&
  g.goodBins ≠ 0 && g.groupOf.length = 16 && g.groupOf.all (fun n => n ≤ 3) && within 0 1000 g.yieldLow &&
  within 0 1000 g.hysteresis && within 1 65535 g.minSample && within 0 65535 g.window && within 0 1000 g.windowLow &&
  within 0 1000 g.limitA && within 0 1000 g.limitB && within 0 1000 g.limitC && within 0 1000 g.limitD &&
  within 0 1000 g.disparity && within 0 65535 g.queueLimit && within 0 255 g.tolerance

/-- The window size as stored: rounded down to a multiple of 16, then brought into 16 to 256 (R28). -/
def storedWindow (w : Nat) : Nat := clamp 16 256 (w / 16 * 16)

/-- The hysteresis as stored: lowered to 1000 − L when L + H would exceed 1000 (R28). -/
def storedHysteresis (yieldLow h : Nat) : Nat := if 1000 < yieldLow + h then 1000 - yieldLow else h

/-- The soak as stored: lowered to 3600 when above (R28). -/
def storedSoak (n : Nat) : Nat := if 3600 < n then 3600 else n

/-- The step record that is stored for given fields (R25, R28). -/
def storeStep (g : StepGiven) : RouteStep :=
  { setpoint := g.setpoint
    soak := storedSoak g.soak
    program := ⟨g.programId, g.revision⟩
    kit := g.kit
    goodBins := g.goodBins
    groupOf := vecOfFn (fun i => ((g.groupOf[i.val]?).bind BinGroup.ofCode?).getD .a)
    yieldLow := g.yieldLow
    hysteresis := storedHysteresis g.yieldLow g.hysteresis
    minSample := g.minSample
    window := storedWindow g.window
    windowLow := g.windowLow
    groupLimit := ⟨g.limitA, g.limitB, g.limitC, g.limitD⟩
    disparity := g.disparity
    queueLimit := g.queueLimit
    tolerance := g.tolerance }

/-! ### Settings -/

/-- The settings of a DISPATCH_CONFIG are in the ranges it carries: Kkit 0 to 65,535, G 0 to 255, the ceiling 0 to 65,535
(R66, R175). -/
def settingsGivenOk (g : SettingsGiven) : Bool :=
  within 0 65535 g.kitTerm && within 0 255 g.agingGain && within 0 65535 g.ageCeiling

/-- The dispatch settings as stored: each value above its maximum is lowered to it (R66). -/
def storeSettings (g : SettingsGiven) : Settings :=
  { kitTerm := min g.kitTerm 7200, agingGain := min g.agingGain 15, ageCeiling := min g.ageCeiling 10080 }

/-- The handler configuration as stored (R70): every site from 1 to the site count is enabled. -/
def storeConfig (capability : Byte) (sites ramp stall lookahead : Nat) : HandlerConfig :=
  { capability := capability.setWidth 3
    siteCount := sites
    sitesEnabled := BitVec.ofNat 8 (2 ^ sites - 1)
    rampRate := clamp 1 60 ramp
    stallTime := clamp 10 3600 stall
    lookahead := min lookahead 9999 }

/-! ### The two forms of a request -/

/-- The handler a request is about where a bound CELL station omits it and a station of another role names it: the CELL form
without a number, the other form with one (R68, R172).  A sender without the roles of the form is answered NOT_PERMITTED
(DEDUCED, `notes/assumptions/9.md`). -/
def State.formHandler (s : State) (sender : StationId) (others : List Role) : Option Nat → Except Result HandlerId
  | some n =>
    match indexOfNumber? n 16 with
    | none => .error .badFormat
    | some h => if (s.rolesOf sender).hasAny others then .ok h else .error .notPermitted
  | none =>
    match s.stations[sender].bound with
    | some h => if (s.rolesOf sender).has .cell then .ok h else .error .notPermitted
    | none => .error .notPermitted

/-- The handler a query is about: a bound CELL station may omit the number, other senders name a handler (R85, R130). -/
def State.queriedHandler (s : State) (sender : StationId) : Option Nat → Option HandlerId
  | some n => indexOfNumber? n 16
  | none => if (s.rolesOf sender).has .cell then s.stations[sender].bound else none

/-- The tester a request is about: the CELL form is for the docked tester of the sender's handler (WRONG_STATE where none is
docked), the other form names a tester (R99, R101). -/
def State.formTester (s : State) (sender : StationId) (others : List Role) : Option Nat → Except Result TesterId
  | some n =>
    match indexOfNumber? n 16 with
    | none => .error .badFormat
    | some t => if (s.rolesOf sender).hasAny others then .ok t else .error .notPermitted
  | none =>
    match s.stations[sender].bound with
    | some h =>
      if (s.rolesOf sender).has .cell then
        match s.handlers[h].docked with
        | some t => .ok t
        | none => .error .wrongState
      else .error .notPermitted
    | none => .error .notPermitted

/-! ### The maintenance lock -/

/-- A sender passes a check that one of the roles, or the handler's maintenance lock, satisfies (R68). -/
def State.mayServe (s : State) (sender : StationId) (roles : List Role) (h : HandlerId) : Bool :=
  (s.rolesOf sender).hasAny roles || s.handlers[h].lock = some sender

/-- A handler is locked by a station other than the sender (R75). -/
def State.lockedAgainst (s : State) (sender : StationId) (h : HandlerId) : Bool := s.handlers[h].lock.any (fun j => j ≠ sender)

end Sys2Proof.Machine
end

