-- ==== Sys2Proof/Machine/Ops.lean ====
section
/-! DEFINITION. Machine/Ops.lean: the operations that several commands share: attention, queue entry, release, thermal
setup, readiness, staging loads, cancellation, placing holds, leaving a handler, selection, and the taking of a request. -/

namespace Sys2Proof.Machine

/-- The outcome of a command. -/
abbrev Out := Host.Outcome State Fault Refusal

/-! ### Attention (R177) -/

/-- The bit of a unit in a unit set. -/
def unitBit {n : Nat} (i : Fin n) : BitVec 16 := 1 <<< i.val

/-- An attention set with a kind marked: a kind already marked gains the units; marks stay in code order (R177). -/
def addMark (k : AttentionKind) (units : BitVec 16) : List Mark → List Mark
  | [] => [⟨k, units⟩]
  | m :: ms =>
    if m.kind = k then ⟨k, m.units ||| units⟩ :: ms
    else if k.code < m.kind.code then ⟨k, units⟩ :: m :: ms
    else m :: addMark k units ms

/-- A station marked with a kind, where its mask holds the kind (R177). -/
def Station.mark (k : AttentionKind) (units : BitVec 16) (x : Station) : Station :=
  if x.mask.has k then { x with attention := addMark k units x.attention } else x

/-- Mark a kind for a handler's bound station; not marked when it has none (R68, R177). -/
def State.markBound (s : State) (h : HandlerId) (k : AttentionKind) (units : BitVec 16) : State :=
  match s.handlers[h].bound with
  | some i => s.updStation i (Station.mark k units)
  | none => s

/-- Mark a kind for every enrolled station holding one of the roles (R177). -/
def State.markRoles (s : State) (roles : List Role) (k : AttentionKind) (units : BitVec 16) : State :=
  { s with stations := vecMap (fun x => if x.enrolled && x.roles.hasAny roles then x.mark k units else x) s.stations }

/-- LOT_COMPLETE is marked for QUALITY and DOCK stations, and for ENGINEERING stations when the lot's deviation-used flag or
waiver flag is set (R19, R146). -/
def State.markComplete (s : State) (l : Lot) : State :=
  if l.deviationUsed || l.waiver then s.markRoles [.quality, .dock, .engineering] .lotComplete 0
  else s.markRoles [.quality, .dock] .lotComplete 0

/-! ### Queue entry and step records -/

/-- The next stamp after a counter's value; both 32-bit counters hold at their maximum (R42, R158). -/
def nextStamp (n : Nat) : Nat := holdAt Config.stampMax (n + 1)

/-- The queue-time countdown that a fresh entry starts: Q × 60 seconds, absent when Q is 0 (R43). -/
def freshCountdown (st : RouteStep) : Option Nat := if st.queueLimit = 0 then none else some (st.queueLimit * 60)

/-- A lot enters the queue of its current step's class fresh, with the next queue stamp (R43). -/
def State.enterQueue (s : State) (k : Slot) : State :=
  { (s.updLot k (fun l => { l with state := .queued { stamp := nextStamp s.stampCounter, age := 0, left := freshCountdown (s.stepOf l) } }))
    with stampCounter := nextStamp s.stampCounter }

/-- The record of a step just opened (R8). -/
def StepRecord.opened (quantityIn : Nat) : StepRecord :=
  { quantityIn := quantityIn, tested := 0, good := 0, fails := ⟨0, 0, 0, 0⟩, missing := none, closeTime := none
    finalYield := none, armed := true, rescreens := 0, saturated := false, runs := [] }

/-- A lot with its next step opened: quantity in is the closed step's good count, 999,999 when that is greater (R8). -/
def Lot.openNext (l : Lot) : Lot :=
  { l with past := l.past ++ [l.cur], cur := StepRecord.opened (min l.cur.good Config.quantityMax) }

/-- The run entries of a step with the run in progress ended (R10). -/
def endRun (t : Time) (runs : List RunEntry) : List RunEntry :=
  runs.map (fun r => if r.endTime.isNone then { r with endTime := some t } else r)

/-- A lot's run in progress is ended at floor time (R10, R83). -/
def State.endRunOf (s : State) (k : Slot) : State :=
  s.updLot k (fun l => { l with cur := { l.cur with runs := endRun s.floorTime l.cur.runs } })

/-! ### Release (R155 to R159) -/

/-- A lot needs engineering (R151). -/
def Lot.needsEngineering (l : Lot) : Bool := l.deviationUsed || l.waiver

/-- The roles a lot's endorsements must cover (R151). -/
def Lot.requiredRoles (l : Lot) : List Role :=
  if l.needsEngineering then [.quality, .dock, .engineering] else [.quality, .dock]

/-- The required roles that a lot's list does not hold yet (R151, R153). -/
def Lot.missingRoles (l : Lot) : List Role :=
  l.requiredRoles.filter (fun r => !l.endorsements.any (fun e => e.role = r))

/-- The active code of a product; a lot's product always has one (R29, `notes/assumptions/13.md`). -/
def State.codeOf (s : State) (p : ProductIx) : Text :=
  match s.products[p].active with
  | some r => r.code
  | none => []

/-- The release record of a lot (R156). -/
def State.releaseRecord (s : State) (l : Lot) : ReleaseRecord :=
  { slot := l.slot, lot := l.id, product := s.codeOf l.product, quantity := l.cur.good, time := s.floorTime
    endorsers := l.endorsements.map (fun e => (e.station, e.role)) }

/-- To release a lot: its record joins the tail, it becomes RELEASED without a waiting stamp, and LOT_RELEASED is marked for
DOCK and FLOOR stations (R157). -/
def State.release (s : State) (l : Lot) : State :=
  ({ s with releaseQueue := s.releaseQueue ++ [s.releaseRecord l] }.setLotState l.slot .released).markRoles
    [.dock, .floor] .lotReleased 0

/-- A fully endorsed lot joins the release-waiting list with the next waiting stamp (R158). -/
def State.joinWaiting (s : State) (k : Slot) : State :=
  { (s.setLotState k (.complete (some (nextStamp s.waitingCounter)))) with waitingCounter := nextStamp s.waitingCounter }

/-- A place freed in the release queue is offered to the oldest lot of the release-waiting list (R159). -/
def State.offerPlace (s : State) : State :=
  match s.waitingList with
  | l :: _ => s.release l
  | [] => s

/-- The release queue without the record of a slot; the records behind it move up (R155). -/
def State.dropRecord (s : State) (k : Slot) : State :=
  { s with releaseQueue := s.releaseQueue.filter (fun r => r.slot ≠ k) }

/-! ### Readiness (R57) -/

/-- The four ready conditions of a handler with the reserved lot given, other than that it has no current lot. -/
def State.readyFor (s : State) (h : HandlerId) (k : Slot) : Bool :=
  match s.lot? k, s.handlers[h].docked with
  | some l, some t =>
    match l.state.resolved? with
    | some r =>
      s.testers[t].atHand r.program && s.isReleased r.program &&
      s.handlers[h].thermal = .atTemp && s.handlers[h].setpoint = some (s.stepOf l).setpoint &&
      s.handlers[h].kit = some (s.stepOf l).kit
    | none => false
  | _, _ => false

/-- The ready conditions are checked: PREPARING goes to READY with READY_TO_START when all hold, READY goes back to
PREPARING when one is lost; a handler in another state is not checked (R57). -/
def State.readyCheck (s : State) (h : HandlerId) : State :=
  match s.handlers[h].cell with
  | .preparing k =>
    if s.readyFor h k then (s.updHandler h (fun x => { x with cell := .ready k })).markBound h .readyToStart (unitBit h)
    else s
  | .ready k => if s.readyFor h k then s else s.updHandler h (fun x => { x with cell := .preparing k })
  | _ => s

/-! ### Setup (R77) -/

/-- The thermal state a handler has once a target applies: kept at the setpoint it stands at, RAMPING otherwise. -/
def thermalAfter (x : Handler) (t : Target) : Thermal := if x.setpoint = some t.setpoint then x.thermal else .ramping

/-- SETPOINT_CHANGE is marked for a new target: always, but where the handler stands at the new setpoint and had no target
or one of the same setpoint. -/
def setpointChanges (x : Handler) (t : Target) : Bool :=
  x.setpoint ≠ some t.setpoint || x.target.any (fun o => o.setpoint ≠ t.setpoint)

/-- The setup of a reserved lot applies to a handler with no current lot: target, required kit, thermal state, and the
SETPOINT_CHANGE and KIT_CHANGE marks (R77). -/
def State.applySetup (s : State) (h : HandlerId) (k : Slot) : State :=
  match s.lot? k with
  | none => s
  | some l =>
    let st := s.stepOf l
    let t : Target := { setpoint := st.setpoint, soak := st.soak }
    let x := s.handlers[h]
    let s1 := s.updHandler h (fun x => { x with target := some t, requiredKit := some st.kit, thermal := thermalAfter x t })
    let s2 := if setpointChanges x t then s1.markBound h .setpointChange (unitBit h) else s1
    if x.kit ≠ some st.kit then s2.markBound h .kitChange (unitBit h) else s2

/-! ### Staging (R97) -/

/-- The staged slot at the start of a load: LOADING with the library signature and a deadline of 2 × E (R97). -/
def loadOf (e : LibraryEntry) (p : Program) (attempts : Nat) : Staged :=
  { state := .loading, program := p, expected := e.signature, reported := none, deadline := 2 * e.estimate
    attempts := attempts }

/-- Start a load of a program on a tester: LOADING with the library signature and a deadline of 2 × E, and STAGE_REQUEST for
the bound station of the tester's handler (R97). -/
def State.startLoad (s : State) (t : TesterId) (p : Program) (attempts : Nat) : State :=
  match s.revision? p with
  | none => s
  | some e =>
    let s1 := s.updTester t (fun x => { x with staged := some (loadOf e p attempts) })
    match s.testers[t].docked with
    | some h => s1.markBound h .stageRequest (unitBit h)
    | none => s1

/-- Staging for a reservation's resolved program on the docked tester: nothing when it is at hand, a load in flight of it is
adopted with attempt count 1, a load of another program defers it, and otherwise a load starts (R97). -/
def State.beginStaging (s : State) (t : TesterId) (p : Program) : State :=
  if s.testers[t].atHand p then s
  else
    match s.testers[t].staged with
    | some g =>
      if g.state = .loading then
        if g.program = p then s.updTester t (fun x => { x with staged := some { g with attempts := 1 } }) else s
      else s.startLoad t p 1
    | none => s.startLoad t p 1

/-! ### Reservations: making and cancelling (R56, R61) -/

/-- The pending count of a deviation entry changed (R94). -/
def State.updPending (s : State) (d : Option DevId) (f : Nat → Nat) : State :=
  match d with
  | some i => s.updDeviation i (Option.map (fun e => { e with pending := f e.pending }))
  | none => s

/-- A cell whose reserved lot is cleared: to IDLE from PREPARING or READY, its state kept with a current lot (R61). -/
def Cell.dropReserved : Cell → Cell
  | .preparing _ => .idle
  | .ready _ => .idle
  | .running c _ => .running c none
  | .draining c _ => .draining c none
  | .offline => .offline
  | .idle => .idle

/-- A handler whose reservation is cancelled: without a current lot its required kit is dropped as well (R61). -/
def Handler.dropReserved (x : Handler) : Handler :=
  { x with cell := x.cell.dropReserved, requiredKit := if x.cell.current.isSome then x.requiredKit else none }

/-- The reservation of a lot is cancelled, for a hold (`held`) or for another cause (R61, R44). -/
def State.cancelReservation (s : State) (k : Slot) (held : Bool) : State :=
  match s.lot? k with
  | none => s
  | some l =>
    match l.state with
    | .reserved w h r =>
      (((s.updPending r.deviation (fun n => n - 1)).setLotState k (if held then .held else .queued w)).updHandler h
        Handler.dropReserved).markBound h .reservationCancelled (unitBit h)
    | _ => s

/-- The reserved lot of a handler, with its resolved program. -/
def State.reservedOn (s : State) (h : HandlerId) : Option (Slot × Program) :=
  match s.handlers[h].cell.reserved with
  | some k =>
    match s.lot? k with
    | some l => l.state.resolved?.map (fun r => (k, r.program))
    | none => none
  | none => none

/-- What follows the end of a load for the reservation of the docked handler (R100). -/
def State.afterLoad (s : State) (t : TesterId) : State :=
  match s.testers[t].docked with
  | none => s
  | some h =>
    match s.reservedOn h with
    | none => s
    | some (k, p) =>
      if s.testers[t].atHand p then s.readyCheck h
      else
        match s.testers[t].staged with
        | some g =>
          if g.program = p then
            if g.attempts < Config.attemptMax then s.startLoad t p (g.attempts + 1) else s.cancelReservation k false
          else s.startLoad t p 1
        | none => s.startLoad t p 1

/-- A staged slot is in FAULT (R88). -/
def Tester.faulted (t : Tester) : Bool := t.staged.any (fun g => g.state.name = .fault)

/-- STAGING_FAULT naming the tester is marked for the docked handler's bound station and every ENGINEERING station (R100). -/
def State.markStagingFault (s : State) (t : TesterId) : State :=
  match s.testers[t].docked with
  | some h => (s.markBound h .stagingFault (unitBit t)).markRoles [.engineering] .stagingFault (unitBit t)
  | none => s.markRoles [.engineering] .stagingFault (unitBit t)

/-- A load has ended (R100): an end in FAULT marks STAGING_FAULT for the docked handler's bound station and every
ENGINEERING station, and the docked handler's reservation is looked at. -/
def State.loadEnded (s : State) (t : TesterId) : State :=
  if s.testers[t].faulted then (s.markStagingFault t).afterLoad t else s.afterLoad t

/-! ### Placing a reason (R133 to R139) -/

/-- A hold set with one entry more, in the order of the reason list (R5). -/
def insertHold (e : HoldEntry) : List HoldEntry → List HoldEntry
  | [] => [e]
  | x :: xs => if e.reason.code < x.reason.code then e :: x :: xs else x :: insertHold e xs

/-- Add a reason to a lot's hold set unless it is present, with HOLD_PLACED for QUALITY and FLOOR stations; the lot is not
moved.  The flag says whether an entry was added (R133, R138). -/
def State.addHold (s : State) (k : Slot) (r : HoldReason) (setter : Option StationId) (groups : BitVec 4) : State × Bool :=
  match s.lot? k with
  | none => (s, false)
  | some l =>
    if l.hasHold r then (s, false)
    else
      ((s.updLot k (fun l => { l with holds := insertHold ⟨r, s.floorTime, setter, groups⟩ l.holds })).markRoles
        [.quality, .floor] .holdPlaced 0, true)

/-- A cell whose current lot starts to drain: RUNNING goes to DRAINING, its reserved lot kept (R82). -/
def Cell.drain : Cell → Cell
  | .running c q => .draining c q
  | .draining c q => .draining c q
  | .preparing q => .preparing q
  | .ready q => .ready q
  | .offline => .offline
  | .idle => .idle

/-- A reason on a RUNNING lot starts a drain: lot and handler go to DRAINING together, the stall countdown stops, its flag is
cleared, and STOP is marked for the bound station (R82, R135). -/
def State.startDrain (s : State) (k : Slot) (h : HandlerId) (resolved : Resolved) (r : HoldReason) : State :=
  ((s.setLotState k (.draining h resolved r)).updHandler h (fun x =>
    { x with cell := x.cell.drain, stalled := false })).markBound h .stop (unitBit h)

/-- A reason on a RELEASED lot recalls it: its record leaves the queue, its endorsements are emptied, it becomes HELD, and
the freed place is offered (R137, R162). -/
def State.recall (s : State) (k : Slot) : State :=
  ((s.dropRecord k).updLot k (fun l => { l with state := .held, endorsements := [] })).offerPlace

/-- Place a reason on a lot: add the entry and move the lot as its state requires; a reason already present, or one placed on
a SCRAPPED lot, changes nothing (R133 to R137).  The flag says whether an entry was added. -/
def State.placeHold (s : State) (k : Slot) (r : HoldReason) (setter : Option StationId) (groups : BitVec 4) : State × Bool :=
  match s.lot? k with
  | none => (s, false)
  | some l =>
    if l.hasHold r || l.state = .scrapped then (s, false)
    else
      let s1 := (s.addHold k r setter groups).1
      (match l.state with
        | .queued _ => s1.setLotState k .held
        | .reserved _ _ _ => s1.cancelReservation k true
        | .running h resolved => s1.startDrain k h resolved r
        | .draining _ _ _ => s1
        | .held => s1
        | .complete _ => s1.updLot k (fun l => { l with state := .held, endorsements := [] })
        | .released => s1.recall k
        | .scrapped => s1, true)

/-! ### A lot leaves its handler (R83) -/

/-- The handler's part of a lot leaving it at LOT_END or DRAINED: the guard's run ends, the stalled flag is cleared, and the
handler goes to PREPARING with its reserved lot's setup applied and the ready conditions checked, or to IDLE (R83). -/
def State.leaveHandler (s : State) (h : HandlerId) : State :=
  let s1 := { s with guards := s.guards.set h none }
  match s.handlers[h].cell.reserved with
  | some k => ((s1.updHandler h (fun x => { x with cell := .preparing k, stalled := false })).applySetup h k).readyCheck h
  | none => s1.updHandler h (fun x => { x with cell := .idle, requiredKit := none, stalled := false })

/-! ### Selection (R51 to R56) -/

/-- The deviation entry that applies to a lot's current step: the lowest-numbered one naming its product, step and the
route's revision (R52, R92). -/
def State.deviationFor? (s : State) (l : Lot) : Option DevId :=
  lowestIndex (fun d : DevId => (s.deviations[d]).any (fun e =>
    e.product = l.product && e.step = l.stepNumber && e.fromRevision = (s.stepOf l).program.revision))

/-- The resolved program of a queued lot (R52, R92). -/
def State.resolve (s : State) (l : Lot) : Resolved :=
  let p := (s.stepOf l).program
  match s.deviationFor? l with
  | some d =>
    match s.deviations[d] with
    | some e => { program := ⟨p.id, e.substitute⟩, deviation := some d }
    | none => { program := p, deviation := none }
  | none => { program := p, deviation := none }

/-- The deviation entry of a resolved program, if any, has capacity left: remaining minus pending is at least 1 (R51). -/
def State.hasCapacity (s : State) (r : Resolved) : Bool :=
  match r.deviation with
  | some d => (s.deviations[d]).any (fun e => e.pending < e.remaining)
  | none => true

/-- A lot is eligible for a selection for a handler (R51). -/
def State.eligible (s : State) (h : HandlerId) (l : Lot) : Bool :=
  l.isQueued && l.holds.isEmpty && s.handlers[h].capable (classOf (s.stepOf l).setpoint) &&
  s.isReleased (s.resolve l).program && s.hasCapacity (s.resolve l) && s.handlers[h].sites ≠ 0

/-- The kit term of the changeover (R53). -/
def State.kitTerm (s : State) (h : HandlerId) (st : RouteStep) : Nat :=
  if s.handlers[h].kit = some st.kit then 0 else s.settings.kitTerm

/-- The ramp rate of a handler. -/
def Handler.rampRate (x : Handler) : Nat := (x.config.map (·.rampRate)).getD 0

/-- The temperature term of the changeover (R53). -/
def State.temperatureTerm (s : State) (h : HandlerId) (st : RouteStep) : Nat :=
  match s.handlers[h].setpoint with
  | some c => if c = st.setpoint then 0 else (st.setpoint - c).natAbs * s.handlers[h].rampRate + st.soak
  | none => (st.setpoint - Config.referenceSetpoint).natAbs * s.handlers[h].rampRate + st.soak

/-- The program term of the changeover (R53). -/
def State.programTerm (s : State) (h : HandlerId) (p : Program) : Nat :=
  match s.handlers[h].docked with
  | some t => if s.testers[t].atHand p then 0 else s.estimateOf p
  | none => s.estimateOf p

/-- The changeover C of a lot for a handler (R53). -/
def State.changeover (s : State) (h : HandlerId) (l : Lot) : Nat :=
  s.kitTerm h (s.stepOf l) + s.temperatureTerm h (s.stepOf l) + s.programTerm h (s.resolve l).program

/-- The class offset P (R54). -/
def classOffset : Nat → Nat
  | 0 => 0
  | 1 => 3600
  | 2 => 7200
  | _ => 14400

/-- The queue age of a lot. -/
def Lot.age (l : Lot) : Nat := ((l.state.wait?).map (·.age)).getD 0

/-- The age credit A (R54). -/
def State.ageCredit (s : State) (l : Lot) : Nat := min l.age Config.creditAgeMax * s.settings.agingGain / 8

/-- The dispatch score P + C − A; lower is better (R54). -/
def State.score (s : State) (h : HandlerId) (l : Lot) : Int :=
  (classOffset l.priority : Int) + (s.changeover h l : Int) - (s.ageCredit l : Int)

/-- A lot's queue age is at or above the age ceiling, when the ceiling is not 0 (R55, R65). -/
def State.overdue (s : State) (l : Lot) : Bool :=
  s.settings.ageCeiling ≠ 0 && s.settings.ageCeiling * 60 ≤ l.age

/-- The earlier stamp, and among equal stamps the lower slot (R55). -/
def stampLt (a b : Lot) : Bool := a.stamp < b.stamp || (a.stamp = b.stamp && a.slot < b.slot)

/-- The better score, ties by stamp and slot (R55). -/
def State.scoreLt (s : State) (h : HandlerId) (a b : Lot) : Bool :=
  s.score h a < s.score h b || (s.score h a = s.score h b && stampLt a b)

/-- Of a lot chosen so far and another, the one that comes first in an order. -/
def firstBy (lt : Lot → Lot → Bool) : Option Lot → Lot → Option Lot
  | none, l => some l
  | some b, l => if lt l b then some l else some b

/-- The lots eligible for a selection for a handler. -/
def State.candidates (s : State) (h : HandlerId) : List Lot := s.lots.filter (s.eligible h)

/-- The selection for a handler: the lowest stamp of the overdue group, or the lowest score (R55). -/
def State.select (s : State) (h : HandlerId) : Option (Lot × Choice) :=
  match (((s.candidates h).filter s.overdue).foldl (firstBy stampLt) none) with
  | some l => some (l, .overdue)
  | none =>
    match (s.candidates h).foldl (firstBy (s.scoreLt h)) none with
    | some l => some (l, .byScore (s.changeover h l) (s.score h l))
    | none => none

/-- A cell with a reserved lot set: IDLE goes to PREPARING, a cell with a current lot keeps its state (R56). -/
def Cell.takeReserved (k : Slot) : Cell → Cell
  | .idle => .preparing k
  | .running c _ => .running c (some k)
  | .draining c _ => .draining c (some k)
  | .offline => .offline
  | .preparing q => .preparing q
  | .ready q => .ready q

/-- The reservation of a queued lot for a handler (R56). -/
def State.reserve (s : State) (h : HandlerId) (l : Lot) : State :=
  match l.state with
  | .queued w =>
    let r := s.resolve l
    let s1 := ((s.setLotState l.slot (.reserved w h r)).updPending r.deviation (fun n => n + 1)).updHandler h
      (fun x => { x with cell := x.cell.takeReserved l.slot })
    let s2 := match s.handlers[h].docked with
      | some t => s1.beginStaging t r.program
      | none => s1
    if s.handlers[h].cell.current.isSome then s2 else (s2.applySetup h l.slot).readyCheck h
  | _ => s

/-! ### Taking a request (R172, R173) -/

/-- The answer of a block: result code, content, and the state after the request. -/
structure Reply where
  result : Result
  body : Body
  state : State
deriving DecidableEq, Repr

/-- A request that is refused leaves every table as it was. -/
def refuse (s : State) (r : Result) : Reply := ⟨r, .nothing, s⟩

/-- A request that is taken. -/
def accept (s : State) (b : Body) : Reply := ⟨.ok, b, s⟩

/-- The state with its Link Interface changed. -/
def State.updLink (s : State) (f : Link → Link) : State := { s with link := f s.link }

/-- The answer is appended at the tail of the response queue, with the attention bit of the moment it is formed (R172,
R173). -/
def Reply.send (r : Reply) (sender : StationId) (kind : Nat) (tag : Fin 16) : State :=
  r.state.updLink (fun k => { k with responses := k.responses ++
    [{ receiver := sender, kind := kind, tag := tag, result := r.result
       attention := !r.state.stations[sender].attention.isEmpty, body := r.body }] })

/-- The delivery of a request frame to the part's checks (R172): the part is out of reset, the response queue has a free
entry, and the frame is at the head of the receive buffer, which it leaves; with an empty buffer it passes straight through
(`notes/assumptions/1.md`).  None where the request is not delivered in this state. -/
def State.deliver (s : State) (sender : StationId) (kind : Nat) (tag : Fin 16) (reads : List Byte → Bool) : Option State :=
  if s.inReset || Config.linkDepth ≤ s.link.responses.length then none
  else
    match s.link.rxBuffer with
    | [] => some s
    | f :: rest =>
      if f.sender = sender && f.kind = kind && f.tag = tag && reads f.payload then
        some (s.updLink (fun k => { k with rxBuffer := rest }))
      else none

/-- The Link Interface's checks of a delivered frame, with its answer where one fails (R172). -/
def State.linkCheck (s : State) (sender : StationId) (kind : Nat) : Option Result :=
  if !s.stations[sender].enrolled then some .notPermitted
  else
    match Kind.ofCode? kind with
    | none => some .unknownKind
    | some k =>
      match k.roleCheck with
      | .any => none
      | .block => none
      | .roles rs => if (s.rolesOf sender).hasAny rs then none else some .notPermitted

/-- A request of a kind: it is delivered, checked by the Link Interface, handed to its owning block, and answered.  A payload
that does not fit its layout is refused with BAD_FORMAT at the block's first check (R175).  A request that is not delivered
waits: it changes nothing. -/
def State.request (s : State) (k : Kind) (m : Msg) (reads : List Byte → Bool) (block : State → Reply) : Out :=
  match s.deliver m.sender k.code m.tag reads with
  | none => .next s
  | some s1 =>
    match s1.linkCheck m.sender k.code with
    | some r => .next ((refuse s1 r).send m.sender k.code m.tag)
    | none => .next ((if m.fits then block s1 else refuse s1 .badFormat).send m.sender k.code m.tag)

/-- An internal event: it happens only while the part is out of reset. -/
def State.event (s : State) (f : State → State) : Out := if s.inReset then .next s else .next (f s)

end Sys2Proof.Machine
end

