-- ==== Sys2Proof/Machine/Handlers.lean ====
section
/-! DEFINITION. Machine/Handlers.lean: configuration, docking, the maintenance lock, temperature and kit reports, and the
cell status report (R67 to R86). -/

namespace Sys2Proof.Machine

/-! ### Configuration, docking and lock -/

/-- The fields of a HANDLER_CONFIG are in the ranges it carries (R70, R175). -/
def handlerConfigOk (capability : Byte) (sites ramp stall lookahead : Nat) : Bool :=
  within 1 8 sites && capability.toNat < 8 && within 0 255 ramp && within 0 65535 stall && within 0 65535 lookahead

/-- The checks and effect of HANDLER_CONFIG (R70). -/
def handlerConfig (sender : StationId) (handler : Nat) (capability : Byte) (sites ramp stall lookahead : Nat) (s : State) : Reply :=
  match indexOfNumber? handler 16 with
  | none => refuse s .badFormat
  | some h =>
    if !handlerConfigOk capability sites ramp stall lookahead then refuse s .badFormat
    else if !s.mayServe sender [.supervisor, .engineering] h then refuse s .notPermitted
    else if s.lockedAgainst sender h then refuse s .locked
    else if !s.handlers[h].cell.outOfWork then refuse s .busy
    else
      let c := storeConfig capability sites ramp stall lookahead
      accept (s.updHandler h (fun x => { x with config := some c })) (.handlerConfig c)

/-- HANDLER_CONFIG (R70). -/
def execHandlerConfig (m : Msg) (handler : Nat) (capability : Byte) (sites ramp stall lookahead : Nat) (s : State) : Out :=
  s.request .handlerConfig m anyPayload (handlerConfig m.sender handler capability sites ramp stall lookahead)

/-- A request of the bound CELL station, which concerns the handler bound to the sender (R68). -/
def State.onBound (s : State) (sender : StationId) (f : HandlerId → Reply) : Reply :=
  match s.stations[sender].bound with
  | none => refuse s .notPermitted
  | some h => f h

/-- HANDLER_ONLINE for a handler (R71). -/
def State.bringOnline (s : State) (h : HandlerId) : Reply :=
  if s.handlers[h].config.isSome && s.handlers[h].cell = .offline then
    accept (s.updHandler h (fun x =>
      { x with cell := .idle, thermal := .unknown, setpoint := none, target := none, stalled := false })) .nothing
  else refuse s .wrongState

/-- HANDLER_ONLINE (R71). -/
def execHandlerOnline (m : Msg) (s : State) : Out :=
  s.request .handlerOnline m anyPayload (fun s => s.onBound m.sender s.bringOnline)

/-- A handler that goes OFFLINE and forgets its temperature (R72). -/
def Handler.goOffline (x : Handler) : Handler :=
  { x with cell := .offline, thermal := .unknown, setpoint := none, target := none, soakLeft := 0, requiredKit := none }

/-- HANDLER_OFFLINE for a handler (R72). -/
def State.takeOffline (s : State) (h : HandlerId) : Reply :=
  match s.handlers[h].cell with
  | .offline => refuse s .wrongState
  | .running _ _ => refuse s .busy
  | .draining _ _ => refuse s .busy
  | .idle => accept (s.updHandler h Handler.goOffline) .nothing
  | .preparing k => accept ((s.cancelReservation k false).updHandler h Handler.goOffline) .nothing
  | .ready k => accept ((s.cancelReservation k false).updHandler h Handler.goOffline) .nothing

/-- The checks and effect of HANDLER_OFFLINE (R72). -/
def handlerOffline (sender : StationId) (handler : Option Nat) (s : State) : Reply :=
  match s.formHandler sender [.floor, .supervisor] handler with
  | .error r => refuse s r
  | .ok h => s.takeOffline h

/-- HANDLER_OFFLINE (R72). -/
def execHandlerOffline (m : Msg) (handler : Option Nat) (s : State) : Out :=
  s.request .handlerOffline m anyPayload (handlerOffline m.sender handler)

/-- A handler and a tester are docked to each other. -/
def State.dockedTogether (s : State) (h : HandlerId) (t : TesterId) : Bool :=
  s.handlers[h].docked = some t && s.testers[t].docked = some h

/-- The handler or the tester is docked already (R73). -/
def State.dockTaken (s : State) (h : HandlerId) (t : TesterId) : Bool :=
  s.handlers[h].docked.isSome || s.testers[t].docked.isSome

/-- The checks and effect of DOCK (R73). -/
def dock (sender : StationId) (handler tester : Nat) (s : State) : Reply :=
  match indexOfNumber? handler 16, indexOfNumber? tester 16 with
  | some h, some t =>
    if !s.mayServe sender [.engineering, .supervisor] h then refuse s .notPermitted
    else if s.lockedAgainst sender h then refuse s .locked
    else if !(s.handlers[h].config.isSome && s.testers[t].configured) then refuse s .wrongState
    else if !s.handlers[h].cell.outOfWork then refuse s .busy
    else if s.dockTaken h t && !s.dockedTogether h t then refuse s .inUse
    else if s.dockedTogether h t then refuse s .duplicate
    else
      accept ((s.updHandler h (fun x => { x with docked := some t })).updTester t (fun x => { x with docked := some h })) .nothing
  | _, _ => refuse s .badFormat

/-- DOCK (R73). -/
def execDock (m : Msg) (handler tester : Nat) (s : State) : Out := s.request .dock m anyPayload (dock m.sender handler tester)

/-- The checks and effect of UNDOCK (R74). -/
def undock (sender : StationId) (handler : Nat) (s : State) : Reply :=
  match indexOfNumber? handler 16 with
  | none => refuse s .badFormat
  | some h =>
    if !s.mayServe sender [.engineering, .supervisor] h then refuse s .notPermitted
    else if s.lockedAgainst sender h then refuse s .locked
    else
      match s.handlers[h].docked with
      | none => refuse s .wrongState
      | some t =>
        if !s.handlers[h].cell.outOfWork then refuse s .busy
        else
          accept ((s.updHandler h (fun x => { x with docked := none })).updTester t (fun x => { x with docked := none })) .nothing

/-- UNDOCK (R74). -/
def execUndock (m : Msg) (handler : Nat) (s : State) : Out := s.request .undock m anyPayload (undock m.sender handler)

/-- The checks and effect of HANDLER_LOCK (R75). -/
def handlerLock (sender : StationId) (handler : Nat) (s : State) : Reply :=
  match indexOfNumber? handler 16 with
  | none => refuse s .badFormat
  | some h =>
    match s.handlers[h].lock with
    | some j => if j = sender then refuse s .duplicate else refuse s .locked
    | none =>
      if s.handlers[h].cell.outOfWork then accept (s.updHandler h (fun x => { x with lock := some sender })) .nothing
      else refuse s .busy

/-- HANDLER_LOCK (R75). -/
def execHandlerLock (m : Msg) (handler : Nat) (s : State) : Out := s.request .handlerLock m anyPayload (handlerLock m.sender handler)

/-- The checks and effect of HANDLER_UNLOCK (R76); station 1 has index 0. -/
def handlerUnlock (sender : StationId) (handler : Nat) (s : State) : Reply :=
  match indexOfNumber? handler 16 with
  | none => refuse s .badFormat
  | some h =>
    match s.handlers[h].lock with
    | none => refuse s .wrongState
    | some j =>
      if j = sender || sender = 0 then accept (s.updHandler h (fun x => { x with lock := none })) .nothing
      else refuse s .locked

/-- HANDLER_UNLOCK (R76). -/
def execHandlerUnlock (m : Msg) (handler : Nat) (s : State) : Out :=
  s.request .handlerUnlock m anyPayload (handlerUnlock m.sender handler)

/-! ### Kit and temperature reports -/

/-- KIT_INSTALLED for a handler (R81). -/
def State.installKit (s : State) (kit : Option Nat) (h : HandlerId) : Reply :=
  if kit.any (fun n => 63 < n) then refuse s .badFormat
  else if s.handlers[h].cell.current.isSome then refuse s .busy
  else
    accept ((s.updHandler h (fun x => { x with kit := kit })).readyCheck h) (.kit kit s.handlers[h].requiredKit)

/-- KIT_INSTALLED (R81). -/
def execKitInstalled (m : Msg) (kit : Option Nat) (s : State) : Out :=
  s.request .kitInstalled m anyPayload (fun s => s.onBound m.sender (s.installKit kit))

/-- A handler that reaches its target: AT_TEMP at once with a soak of 0, SOAKING for the target's soak otherwise (R78). -/
def Handler.reach (t : Target) (x : Handler) : Handler :=
  if t.soak = 0 then { x with setpoint := some t.setpoint, thermal := .atTemp }
  else { x with setpoint := some t.setpoint, thermal := .soaking, soakLeft := t.soak }

/-- The thermal answer of a handler. -/
def State.thermalAnswer (s : State) (h : HandlerId) : Reply :=
  accept s (.thermal s.handlers[h].thermal s.handlers[h].soakLeft)

/-- TEMP_REACHED for a handler (R78). -/
def State.reachTemp (s : State) (setpoint : Int) (h : HandlerId) : Reply :=
  if !setpointOk setpoint then refuse s .badFormat
  else
    match s.handlers[h].target with
    | none => refuse s .wrongState
    | some t =>
      if s.handlers[h].cell = .offline then refuse s .wrongState
      else if setpoint ≠ t.setpoint then refuse s .mismatch
      else if s.handlers[h].thermal = .ramping then
        ((s.updHandler h (Handler.reach t)).readyCheck h).thermalAnswer h
      else s.thermalAnswer h

/-- TEMP_REACHED (R78). -/
def execTempReached (m : Msg) (setpoint : Int) (s : State) : Out :=
  s.request .tempReached m anyPayload (fun s => s.onBound m.sender (s.reachTemp setpoint))

/-- THERMAL is placed on a handler's current lot (R80). -/
def State.holdThermal (s : State) (h : HandlerId) : State :=
  match s.handlers[h].cell.current with
  | some k => (s.placeHold k .thermal none 0).1
  | none => s.readyCheck h

/-- TEMP_LOST for a handler (R80). -/
def State.loseTemp (s : State) (h : HandlerId) : Reply :=
  if s.handlers[h].cell = .offline then refuse s .wrongState
  else
    match s.handlers[h].thermal with
    | .unknown => accept s (.thermalState .unknown)
    | .ramping => accept s (.thermalState .ramping)
    | _ => accept ((s.updHandler h (fun x => { x with thermal := .ramping })).holdThermal h) (.thermalState .ramping)

/-- TEMP_LOST (R80). -/
def execTempLost (m : Msg) (s : State) : Out := s.request .tempLost m anyPayload (fun s => s.onBound m.sender s.loseTemp)

/-! ### CELL_STATUS -/

/-- The id of the lot in a slot. -/
def State.lotIdOf (s : State) (k : Option Slot) : Option Text := k.bind (fun k => (s.lot? k).map (·.id))

/-- The next expected touchdown index of a handler's run: the last accepted index plus one, modulo 65,536 (R85, R111). -/
def State.nextIndexOf (s : State) (h : HandlerId) : Option (BitVec 16) := (s.guards[h]).bind (fun g => g.lastIndex.map (· + 1))

/-- The staging request of a handler: the slot's state and program on the docked tester (R85). -/
def State.stagingRequest (s : State) (h : HandlerId) : Option (StagedName × Option Program) :=
  s.handlers[h].docked.map (fun t =>
    match s.testers[t].staged with
    | some g => (g.state.name, some g.program)
    | none => (.empty, none))

/-- The STATUS answer of a handler (R85). The stop flag shows while the cell is DRAINING (R67). -/
def State.cellStatus (s : State) (h : HandlerId) : CellStatus :=
  let x := s.handlers[h]
  { cell := x.cell.name, thermal := x.thermal, currentLot := s.lotIdOf x.cell.current, reservedLot := s.lotIdOf x.cell.reserved
    target := x.target.map (·.setpoint), requiredKit := x.requiredKit, staging := s.stagingRequest h
    stop := x.cell.name = .draining, stalled := x.stalled, sitesEnabled := x.sites, nextIndex := s.nextIndexOf h }

/-- The SETUP answer of a handler (R85). -/
def Handler.setup (x : Handler) : CellSetup :=
  { configured := x.config.isSome, capability := (x.config.map (·.capability)).getD 0
    siteCount := x.config.map (·.siteCount), rampRate := x.config.map (·.rampRate), stallTime := x.config.map (·.stallTime)
    lookahead := x.config.map (·.lookahead), bound := x.bound, docked := x.docked, lock := x.lock, kit := x.kit
    setpoint := x.setpoint, target := x.target, soakLeft := x.soakLeft, stallLeft := x.stallLeft }

/-- The checks and answer of CELL_STATUS (R85). -/
def cellStatus (sender : StationId) (handler : Option Nat) (part : Option CellPart) (s : State) : Reply :=
  match s.queriedHandler sender handler with
  | none => refuse s .badFormat
  | some h =>
    match part.getD .status with
    | .status => accept s (.cellStatus (s.cellStatus h))
    | .setup => accept s (.cellSetup s.handlers[h].setup)
    | .other => refuse s .badFormat

/-- CELL_STATUS (R85). -/
def execCellStatus (m : Msg) (handler : Option Nat) (part : Option CellPart) (s : State) : Out :=
  s.request .cellStatus m anyPayload (cellStatus m.sender handler part)

end Sys2Proof.Machine
end

