-- ==== Sys2Proof/Machine/Lots.lean ====
section
/-! DEFINITION. Machine/Lots.lean: registration, the lot queries, purge, and the close of a step (R11 to R21). -/

namespace Sys2Proof.Machine

/-! ### LOT_REGISTER -/

/-- The record of a lot just registered, with step 1 opened (R11). -/
def newLot (slot : Slot) (id : Text) (product : ProductIx) (quantity priority : Nat) : Lot :=
  { slot := slot, id := id, product := product, startQuantity := quantity, priority := priority, state := .held, holds := []
    waiver := false, deviationUsed := false, endorsements := [], past := [], cur := StepRecord.opened quantity }

/-- The checks and effect of LOT_REGISTER (R11): the lot takes the lowest free slot and enters its queue fresh. -/
def lotRegister (lot product : Text) (quantity priority : Nat) (s : State) : Reply :=
  if !(lotIdOk lot && productCodeOk product && within 1 999999 quantity && priority ≤ 3) then refuse s .badFormat
  else
    match s.activeProduct? product with
    | none => refuse s .noSuchEntry
    | some p =>
      if (s.lotNamed? lot).isSome then refuse s .duplicate
      else
        match s.freeSlot? with
        | none => refuse s .tableFull
        | some k =>
          accept ((s.addLot (newLot k lot p quantity priority)).enterQueue k) (.registered k (nextStamp s.stampCounter))

/-- LOT_REGISTER (R11). -/
def execLotRegister (m : Msg) (lot product : Text) (quantity priority : Nat) (s : State) : Out :=
  s.request .lotRegister m (readsAs readLotRegister m.fits (lot, product, quantity, priority))
    (lotRegister lot product quantity priority)

/-! ### LOT_QUERY and LOT_SCAN -/

/-- The HEADER part of a lot record (R13). -/
def Lot.header (l : Lot) : LotHeader :=
  { slot := l.slot, product := l.product, startQuantity := l.startQuantity, priority := l.priority, currentStep := l.stepNumber
    waiver := l.waiver, deviationUsed := l.deviationUsed
    stamp := l.state.wait?.map (·.stamp), age := l.state.wait?.map (·.age), left := l.state.wait?.bind (·.left)
    reservedHandler := l.state.reservedHandler?, currentHandler := l.state.currentHandler?, resolved := l.state.resolved?
    drainCause := l.state.drainCause?, holds := l.holds.length, endorsements := l.endorsements.length
    waiting := l.state.waiting?.isSome }

/-- The figures of a step record as LOT_QUERY answers them (R13). -/
def StepRecord.answer (state : LotStateName) (r : StepRecord) : Body :=
  .lotStep state r.quantityIn r.tested r.good r.fails r.missing r.closeTime r.finalYield r.armed r.rescreens r.saturated
    r.runs.length

/-- The hold entries from a starting reason on, at most 6, and whether further entries follow (R13). -/
def holdsFrom (start : Nat) (l : Lot) : Body :=
  let entries := l.holds.filter (fun e => start ≤ e.reason.code)
  .lotHolds l.state.name (entries.take 6) (6 < entries.length)

/-- The selector and argument of LOT_QUERY are in range (R13, R175). -/
def lotPartOk : LotPart → Bool
  | .header => true
  | .step n run => within 1 4 n && run ≤ 4
  | .holds start => start ≤ 11
  | .endorsements => true
  | .other => false

/-- One part of a lot record (R13). -/
def lotPartAnswer (s : State) (l : Lot) : LotPart → Reply
  | .header => accept s (.lotHeader l.state.name l.header)
  | .step n run =>
    match l.steps[n - 1]? with
    | none => refuse s .noSuchEntry
    | some r =>
      if run = 0 then accept s (r.answer l.state.name)
      else
        match r.runs[run - 1]? with
        | none => refuse s .noSuchEntry
        | some e => accept s (.lotRun l.state.name e)
  | .holds start => accept s (holdsFrom start l)
  | .endorsements => accept s (.lotEndorsements l.state.name l.endorsements)
  | .other => refuse s .badFormat

/-- The checks and answer of LOT_QUERY (R13). -/
def lotQuery (lot : Text) (part : LotPart) (s : State) : Reply :=
  if !(lotIdOk lot && lotPartOk part) then refuse s .badFormat
  else
    match s.lotNamed? lot with
    | none => refuse s .noSuchLot
    | some l => lotPartAnswer s l part

/-- LOT_QUERY (R13). -/
def execLotQuery (m : Msg) (lot : Text) (part : LotPart) (s : State) : Out := s.request .lotQuery m anyPayload (lotQuery lot part)

/-- The lowest-numbered occupied slot above the number given, if one is (R14). -/
def State.nextSlot? (s : State) (after : Option Nat) : Option Slot :=
  lowestIndex (fun k : Slot => after.all (fun n => n < k.val) && (s.lot? k).isSome)

/-- The checks and answer of LOT_SCAN (R14). -/
def lotScan (after : Option Nat) (s : State) : Reply :=
  if after.any (fun n => 255 < n) then refuse s .badFormat
  else
    match (s.nextSlot? after).bind s.lot? with
    | some l => accept s (.scanned l.slot l.id l.state.name l.stepNumber)
    | none => refuse s .empty

/-- LOT_SCAN (R14). -/
def execLotScan (m : Msg) (after : Option Nat) (s : State) : Out := s.request .lotScan m anyPayload (lotScan after)

/-! ### LOT_PURGE -/

/-- A lot may be purged: SCRAPPED, or QUEUED at step 1 with no run entries (R15). -/
def Lot.purgeable (l : Lot) : Bool := l.state = .scrapped || (l.isQueued && l.stepNumber = 1 && l.cur.runs.isEmpty)

/-- The checks and effect of LOT_PURGE (R15). -/
def lotPurge (lot : Text) (s : State) : Reply :=
  if !lotIdOk lot then refuse s .badFormat
  else
    match s.lotNamed? lot with
    | none => refuse s .noSuchLot
    | some l => if l.purgeable then accept (s.dropLot l.slot) (.slotFreed l.slot) else refuse s .wrongState

/-- LOT_PURGE (R15). -/
def execLotPurge (m : Msg) (lot : Text) (s : State) : Out := s.request .lotPurge m anyPayload (lotPurge lot)

/-! ### LOT_END -/

/-- The checks that LOT_END, DRAINED and TOUCHDOWN share: the named lot is the current lot of the sender's handler (R17, R109,
R143). -/
def State.currentOf (s : State) (sender : StationId) (lot : Text) : Except Result (HandlerId × Lot) :=
  if !lotIdOk lot then .error .badFormat
  else
    match s.lotNamed? lot with
    | none => .error .noSuchLot
    | some l =>
      match s.stations[sender].bound with
      | none => .error .notPermitted
      | some h =>
        match s.handlers[h].cell.current with
        | none => .error .wrongState
        | some k => if l.slot = k then .ok (h, l) else .error .mismatch

/-- The missing count of a step: quantity in less tested, 0 when tested is greater (R18). -/
def StepRecord.missingCount (r : StepRecord) : Nat := r.quantityIn - r.tested

/-- The final yield of a step, absent when nothing was tested (R18). -/
def StepRecord.yieldAtClose (r : StepRecord) : Option Nat := if r.tested = 0 then none else some (permille r.good r.tested)

/-- A step record closed at a floor time, with its run in progress ended (R17, R18). -/
def StepRecord.close (t : Time) (r : StepRecord) : StepRecord :=
  { r with missing := some r.missingCount, closeTime := some t, finalYield := r.yieldAtClose, runs := endRun t r.runs }

/-- A reason placed on a lot when a condition holds, without moving the lot (R138). -/
def State.addHoldIf (s : State) (c : Bool) (k : Slot) (r : HoldReason) : State × Bool :=
  if c then s.addHold k r none 0 else (s, false)

/-- The reasons of a list whose flags are set. -/
def placedReasons (xs : List (HoldReason × Bool)) : List HoldReason := (xs.filter (·.2)).map (·.1)

/-- The close of a lot's current step: COUNT_SHORT and NO_GOOD_UNITS are placed as found, then the step is closed and the run
in progress ended (R18, R138).  The list names the reasons placed. -/
def State.closeStep (s : State) (l : Lot) : State × List HoldReason :=
  let a := s.addHoldIf ((s.stepOf l).tolerance < l.cur.missingCount) l.slot .countShort
  let b := a.1.addHoldIf (l.cur.good = 0) l.slot .noGoodUnits
  (b.1.updLot l.slot (fun x => { x with cur := x.cur.close s.floorTime }),
    placedReasons [(.countShort, a.2), (.noGoodUnits, b.2)])

/-- Where a lot goes whose step is closed and whose hold set is empty: to its next step's queue, or COMPLETE (R19, R146). -/
def State.proceed (s : State) (k : Slot) : State :=
  match s.lot? k with
  | none => s
  | some l =>
    if s.stepsRemain l then (s.updLot k Lot.openNext).enterQueue k
    else (s.setLotState k (.complete none)).markComplete l

/-- Where a lot goes after the close of its step, by its hold set (R19). -/
def State.afterClose (s : State) (k : Slot) : State :=
  match s.lot? k with
  | none => s
  | some l => if l.holds.isEmpty then s.proceed k else s.setLotState k .held

/-- The state name of the lot in a slot; a slot that holds none reads as SCRAPPED, which no answer shows. -/
def State.stateNameOf (s : State) (k : Slot) : LotStateName := ((s.lot? k).map (fun l => l.state.name)).getD .scrapped

/-- LOT_END taken for the current lot of a handler (R17 to R19). -/
def State.endLot (s : State) (h : HandlerId) (l : Lot) : Reply :=
  let c := s.closeStep l
  let s1 := (c.1.afterClose l.slot).leaveHandler h
  accept s1 (.lotEnded (s1.stateNameOf l.slot) l.cur.missingCount l.cur.yieldAtClose c.2)

/-- The checks and effect of LOT_END (R17). -/
def lotEnd (sender : StationId) (lot : Text) (s : State) : Reply :=
  match s.currentOf sender lot with
  | .error r => refuse s r
  | .ok (h, l) => s.endLot h l

/-- LOT_END (R17). -/
def execLotEnd (m : Msg) (lot : Text) (s : State) : Out := s.request .lotEnd m anyPayload (lotEnd m.sender lot)

end Sys2Proof.Machine
end

