-- ==== Sys2Proof/Machine/Holds.lean ====
section
/-! DEFINITION. Machine/Holds.lean: LOT_HOLD, the three dispositions of LOT_DISPOSE, and DRAINED (R140 to R150). -/

namespace Sys2Proof.Machine

/-! ### LOT_HOLD -/

/-- A handler holds a lot as its current or its reserved lot. -/
def Cell.holds (c : Cell) (k : Slot) : Bool := c.current = some k || c.reserved = some k

/-- The sender may hold a lot: by role for any lot, or as CELL for its handler's current or reserved lot (R140). -/
def State.mayHold (s : State) (sender : StationId) (k : Slot) : Bool :=
  (s.rolesOf sender).hasAny [.floor, .quality, .engineering] ||
  ((s.rolesOf sender).has .cell && (s.stations[sender].bound).any (fun h => s.handlers[h].cell.holds k))

/-- LOT_HOLD taken for a lot: MANUAL is placed with the sender as setter (R140). -/
def State.holdManually (s : State) (sender : StationId) (l : Lot) : Reply :=
  let s1 := (s.placeHold l.slot .manual (some sender) 0).1
  accept s1 (.lotState (s1.stateNameOf l.slot))

/-- The checks and effect of LOT_HOLD (R140). -/
def lotHold (sender : StationId) (lot : Text) (s : State) : Reply :=
  if !lotIdOk lot then refuse s .badFormat
  else
    match s.lotNamed? lot with
    | none => refuse s .noSuchLot
    | some l =>
      if !s.mayHold sender l.slot then refuse s .notPermitted
      else if l.state = .scrapped then refuse s .wrongState
      else if l.hasHold .manual then refuse s .duplicate
      else s.holdManually sender l

/-- LOT_HOLD (R140). -/
def execLotHold (m : Msg) (lot : Text) (s : State) : Out := s.request .lotHold m anyPayload (lotHold m.sender lot)

/-! ### LOT_DISPOSE -/

/-- The checks that the three dispositions share: a HELD lot whose hold set holds the reason named (R144). -/
def State.disposable (s : State) (lot : Text) (reason : Nat) : Except Result (Lot × HoldEntry) :=
  match lotIdOk lot, HoldReason.ofCode? reason with
  | true, some r =>
    match s.lotNamed? lot with
    | none => .error .noSuchLot
    | some l =>
      if l.state ≠ .held then .error .wrongState
      else
        match l.holdOf? r with
        | none => .error .noSuchEntry
        | some e => .ok (l, e)
  | _, _ => .error .badFormat

/-- The answer of a disposition that was taken: the lot's state, the reasons left, the waiver flag, and the queue stamp of a
lot that has entered a queue (R144). -/
def State.disposedAnswer (s : State) (k : Slot) : Reply :=
  match s.lot? k with
  | some l => accept s (.disposed l.state.name (l.holds.map (·.reason)) l.waiver (l.state.wait?.map (·.stamp)))
  | none => accept s .nothing

/-- The sender may clear an entry by CONTINUE: QUALITY, or for MANUAL the station that set it (R145). -/
def State.mayContinue (s : State) (sender : StationId) (e : HoldEntry) : Bool :=
  (s.rolesOf sender).has .quality || (e.reason = .manual && e.setter = some sender)

/-- A lot with one reason cleared by CONTINUE: the waiver flag is set for a reason that waives, and YIELD_LOW disarms the
current step's cumulative check (R145). -/
def Lot.clearHold (r : HoldReason) (l : Lot) : Lot :=
  { l with
    holds := l.holds.filter (fun e => e.reason ≠ r)
    waiver := l.waiver || r.waives
    cur := if r = .yieldLow then { l.cur with armed := false } else l.cur }

/-- Where a lot goes when a CONTINUE has emptied its hold set (R146, R147): on from a closed step, back to its queue from an
open one, or RUN_LIMIT where the open step has used its runs.  A lot with reasons left stays HELD. -/
def State.afterContinue (s : State) (k : Slot) : State :=
  match s.lot? k with
  | none => s
  | some l =>
    if !l.holds.isEmpty then s
    else if l.cur.closed then s.proceed k
    else if l.cur.runs.length < Config.runMax then s.enterQueue k
    else (s.addHold k .runLimit none 0).1

/-- CONTINUE taken for a reason of a lot (R145, R146). -/
def State.continueLot (s : State) (k : Slot) (r : HoldReason) : State := (s.updLot k (Lot.clearHold r)).afterContinue k

/-- The checks and effect of LOT_DISPOSE with CONTINUE (R144 to R147). -/
def disposeContinue (sender : StationId) (lot : Text) (reason : Nat) (s : State) : Reply :=
  match s.disposable lot reason with
  | .error r => refuse s r
  | .ok (l, e) =>
    if !s.mayContinue sender e then refuse s .notPermitted
    else if e.reason = .runLimit then refuse s .wrongState
    else (s.continueLot l.slot e.reason).disposedAnswer l.slot

/-- LOT_DISPOSE with CONTINUE (R144, R145). -/
def execLotDisposeContinue (m : Msg) (lot : Text) (reason : Nat) (s : State) : Out :=
  s.request .lotDispose m anyPayload (disposeContinue m.sender lot reason)

/-- A lot after RESCREEN: no holds, the current step as just opened with its quantity in, one rescreen more (R148). -/
def Lot.rescreen (l : Lot) : Lot :=
  { l with holds := [], cur := { StepRecord.opened l.cur.quantityIn with rescreens := l.cur.rescreens + 1 } }

/-- RESCREEN's own condition: the current step is open and has been rescreened fewer than three times (R148). -/
def Lot.rescreenable (l : Lot) : Bool := !l.cur.closed && l.cur.rescreens < Config.rescreenMax

/-- The checks and effect of LOT_DISPOSE with RESCREEN (R144, R148). -/
def disposeRescreen (sender : StationId) (lot : Text) (reason : Nat) (s : State) : Reply :=
  match s.disposable lot reason with
  | .error r => refuse s r
  | .ok (l, _) =>
    if !(s.rolesOf sender).hasAny [.quality, .engineering] then refuse s .notPermitted
    else if !l.rescreenable then refuse s .wrongState
    else ((s.updLot l.slot Lot.rescreen).enterQueue l.slot).disposedAnswer l.slot

/-- LOT_DISPOSE with RESCREEN (R144, R148). -/
def execLotDisposeRescreen (m : Msg) (lot : Text) (reason : Nat) (s : State) : Out :=
  s.request .lotDispose m anyPayload (disposeRescreen m.sender lot reason)

/-- A lot after SCRAP: no holds, SCRAPPED, its step records kept (R149). -/
def Lot.scrap (l : Lot) : Lot := { l with holds := [], state := .scrapped }

/-- The checks and effect of LOT_DISPOSE with SCRAP (R144, R149). -/
def disposeScrap (sender : StationId) (lot : Text) (reason : Nat) (s : State) : Reply :=
  match s.disposable lot reason with
  | .error r => refuse s r
  | .ok (l, _) =>
    if !(s.rolesOf sender).has .quality then refuse s .notPermitted
    else (s.updLot l.slot Lot.scrap).disposedAnswer l.slot

/-- LOT_DISPOSE with SCRAP (R144, R149). -/
def execLotDisposeScrap (m : Msg) (lot : Text) (reason : Nat) (s : State) : Out :=
  s.request .lotDispose m anyPayload (disposeScrap m.sender lot reason)

/-! ### DRAINED -/

/-- A lot whose drain ends with DRAINED: HELD, its step open with its run ended (R83, R143). -/
def State.heldFromDrain (s : State) (k : Slot) : State := (s.endRunOf k).setLotState k .held

/-- The checks and effect of DRAINED (R143). -/
def drained (sender : StationId) (lot : Text) (s : State) : Reply :=
  match s.currentOf sender lot with
  | .error r => refuse s r
  | .ok (h, l) =>
    match l.state with
    | .draining _ _ _ =>
      accept ((s.heldFromDrain l.slot).leaveHandler h) (.drained .held l.cur.tested l.cur.good l.holds.length)
    | _ => refuse s .wrongState

/-- DRAINED (R143). -/
def execDrained (m : Msg) (lot : Text) (s : State) : Out := s.request .drained m anyPayload (drained m.sender lot)

end Sys2Proof.Machine
end

