-- ==== Sys2Proof/Machine/LinkInterface.lean ====
section
/-! DEFINITION. Machine/LinkInterface.lean: receiving a frame, refusing one at the link, sending a response (R170 to R174). -/

namespace Sys2Proof.Machine

/-- A link counter after one more event (R184). -/
def countUp (n : Nat) : Nat := holdAt Config.linkCounterMax (n + 1)

/-- A frame addressed to node 0 has been received: a bad one is counted; a good one is acknowledged and appended when the
receive buffer and the response queue both have room, and is otherwise discarded unacknowledged and uncounted (R171). -/
def Link.receiveFrame (k : Link) : Reception → Link
  | .ignored => k
  | .bad => { k with badFrames := countUp k.badFrames, ackSlot := false }
  | .good f =>
    if k.rxBuffer.length < Config.linkDepth && k.responses.length < Config.linkDepth then
      { k with rxBuffer := k.rxBuffer ++ [f], ackSlot := true }
    else { k with ackSlot := false }

/-- FRAME_RECEIVE (R171). -/
def execFrameReceive (levels : List Bool) (s : State) : Out :=
  s.event (fun s => s.updLink (fun k => k.receiveFrame (receive levels)))

/-- LINK_REFUSAL (R172): the delivered frame fails a check of the Link Interface, which answers it. A frame that passes every
check is for its owning block and is not refused here. -/
def execLinkRefusal (sender : StationId) (kind : Fin 64) (tag : Fin 16) (s : State) : Out :=
  match s.deliver sender kind.val tag anyPayload with
  | none => .next s
  | some s1 =>
    match s1.linkCheck sender kind.val with
    | some r => .next ((refuse s1 r).send sender kind.val tag)
    | none => .next s

/-- The response at the head of the queue is sent once and leaves the queue: abandoned and counted as a link fault when a bit
reads back differently, counted as dropped when the acknowledge slot stays recessive (R170, R174). -/
def Link.sendResponse (k : Link) (outcome : SendOutcome) : Link :=
  match k.responses with
  | [] => k
  | r :: rest =>
    match outcome with
    | .readBackDiffers => { k with responses := rest, linkFaults := countUp k.linkFaults }
    | .acknowledged => { k with responses := rest, lineOut := some r }
    | .notAcknowledged => { k with responses := rest, dropped := countUp k.dropped, lineOut := some r }

/-- RESPONSE_SEND (R174). -/
def execResponseSend (outcome : SendOutcome) (s : State) : Out := s.event (fun s => s.updLink (fun k => k.sendResponse outcome))

end Sys2Proof.Machine
end

