-- ==== Sys2Proof/Machine/Products.lean ====
section
/-! DEFINITION. Machine/Products.lean: writing, removing and reading a product (R23 to R34). -/

namespace Sys2Proof.Machine

/-- The state with one product entry changed. -/
def State.setProduct (s : State) (i : ProductIx) (p : ProductEntry) : State := { s with products := s.products.set i p }

/-- An entry other than the one given holds a code, active or pending (R24, R30). -/
def State.codeElsewhere (s : State) (i : ProductIx) (code : Text) : Bool :=
  (lowestIndex (fun j : ProductIx => j ≠ i && s.products[j].holdsCode code)).isSome

/-- The answer to an opening frame: the entry state, the steps written, which is 1, and the stored values of step 1 (R30).
DEDUCED (assumption 22, unsafe): R30's answer is that of every frame with k = 1, the one that completes a single-step definition
among them. -/
def openedAnswer (p : ProductEntry) (st : RouteStep) : Body := .stepOpened p.state 1 st.soak st.hysteresis st.window

/-- The answer to a frame that continues a definition: the steps written (R31) and the stored values of its step (R28). -/
def continuedAnswer (written : Nat) (st : RouteStep) : Body := .stepContinued written st.soak st.hysteresis st.window

/-- The answer to the frame that completes a definition of two steps or more: the entry state, which is DEFINED, and the stored
values of its last step (R31). -/
def completedAnswer (p : ProductEntry) (st : RouteStep) : Body :=
  .definitionCompleted p.state st.soak st.hysteresis st.window

/-- A frame with k = 1 opens a definition, and completes it when the step count is 1 (R30, R31). -/
def openDefinition (sender : StationId) (i : ProductIx) (code : Text) (count : Nat) (st : RouteStep) (s : State) : Reply :=
  if s.productInUse i then refuse s .inUse
  else if s.codeElsewhere i code then refuse s .duplicate
  else
    let p : ProductEntry :=
      if count = 1 then { active := some { code := code, steps := [st] }, draft := none }
      else { active := s.products[i].active, draft := some { code := code, count := count, steps := [st], owner := sender } }
    accept (s.setProduct i p) (openedAnswer p st)

/-- A pending definition is continued by a frame: same owner, code and count, and the next step number (R31). -/
def Draft.continuedBy (d : Draft) (sender : StationId) (code : Text) (count k : Nat) : Bool :=
  d.owner = sender && d.code = code && d.count = count && k = d.steps.length + 1

/-- A frame with k from 2 continues a pending definition, and completes it when k is the step count (R31). -/
def continueDefinition (sender : StationId) (i : ProductIx) (code : Text) (count k : Nat) (st : RouteStep) (s : State) : Reply :=
  match s.products[i].draft with
  | none => refuse s .outOfSequence
  | some d =>
    if !d.continuedBy sender code count k then refuse s .outOfSequence
    else if k < count then
      let p : ProductEntry := { active := s.products[i].active, draft := some { d with steps := d.steps ++ [st] } }
      accept (s.setProduct i p) (continuedAnswer k st)
    else if s.productInUse i then refuse s .inUse
    else
      let p : ProductEntry := { active := some { code := code, steps := d.steps ++ [st] }, draft := none }
      accept (s.setProduct i p) (completedAnswer p st)

/-- The checks and effect of PRODUCT_DEFINE (R30, R31). -/
def productDefine (sender : StationId) (index : Nat) (code : Text) (count k : Nat) (g : StepGiven) (s : State) : Reply :=
  match index? index 64 with
  | none => refuse s .badFormat
  | some i =>
    if !(productCodeOk code && within 1 4 count && within 1 count k && stepGivenOk g) then refuse s .badFormat
    else if k = 1 then openDefinition sender i code count (storeStep g) s
    else continueDefinition sender i code count k (storeStep g) s

/-- PRODUCT_DEFINE (R30). -/
def execProductDefine (m : Msg) (index : Nat) (code : Text) (count number : Nat) (step : StepGiven) (s : State) : Out :=
  s.request .productDefine m anyPayload (productDefine m.sender index code count number step)

/-- The entry a PRODUCT_REMOVE names; a code is looked up among active and pending codes (R33). -/
def State.namedForRemoval (s : State) : ProductName → Except Result ProductIx
  | .index n =>
    match index? n 64 with
    | none => .error .badFormat
    | some i => if s.products[i].state = .free then .error .noSuchEntry else .ok i
  | .code t =>
    if !productCodeOk t then .error .badFormat
    else
      match lowestIndex (fun i : ProductIx => s.products[i].holdsCode t) with
      | some i => .ok i
      | none => .error .noSuchEntry

/-- The checks and effect of PRODUCT_REMOVE (R33). -/
def productRemove (name : ProductName) (s : State) : Reply :=
  match s.namedForRemoval name with
  | .error r => refuse s r
  | .ok i =>
    if s.productInUse i then refuse s .inUse
    else accept (s.setProduct i { active := none, draft := none }) (.productFreed i)

/-- PRODUCT_REMOVE (R33). -/
def execProductRemove (m : Msg) (name : ProductName) (s : State) : Out := s.request .productRemove m anyPayload (productRemove name)

/-- The entry a PRODUCT_QUERY names: by index any entry, by code among active codes (R34). -/
def State.namedForQuery (s : State) : ProductName → Except Result ProductIx
  | .index n =>
    match index? n 64 with
    | none => .error .badFormat
    | some i => .ok i
  | .code t =>
    if !productCodeOk t then .error .badFormat
    else
      match s.activeProduct? t with
      | some i => .ok i
      | none => .error .noSuchEntry

/-- The HEADER part of a product entry (R34). -/
def State.productHeader (s : State) (i : ProductIx) : Body :=
  let p := s.products[i]
  .productHeader i p.state (p.active.map (fun r => (r.code, r.steps.length)))
    ((p.active.map (fun r => r.steps.map (fun st => classOf st.setpoint))).getD []) (s.lotCount i) (s.deviationCount i)
    (p.draft.map (fun d => (d.code, d.count, d.steps.length, d.owner)))

/-- The selector of PRODUCT_QUERY is in range (R34). -/
def productPartOk : ProductPart → Bool
  | .header => true
  | .step n => within 1 4 n
  | .other => false

/-- The checks and answer of PRODUCT_QUERY (R34). -/
def productQuery (name : ProductName) (part : ProductPart) (s : State) : Reply :=
  if !productPartOk part then refuse s .badFormat
  else
    match s.namedForQuery name with
    | .error r => refuse s r
    | .ok i =>
      match part with
      | .header => accept s (s.productHeader i)
      | .step n =>
        match s.products[i].active.bind (fun r => r.steps[n - 1]?) with
        | some st => accept s (.productStep st (classOf st.setpoint))
        | none => refuse s .noSuchEntry
      | .other => refuse s .badFormat

/-- PRODUCT_QUERY (R34). -/
def execProductQuery (m : Msg) (name : ProductName) (part : ProductPart) (s : State) : Out :=
  s.request .productQuery m anyPayload (productQuery name part)

end Sys2Proof.Machine
end

