-- ==== Sys2Proof/Machine/Programs.lean ====
section
/-! DEFINITION. Machine/Programs.lean: the program library, and what a withdrawal does across the part (R35 to R40, R105). -/

namespace Sys2Proof.Machine

/-- The state with one library entry changed. -/
def State.setLibrary (s : State) (i : LibIx) (e : Option LibraryEntry) : State := { s with library := s.library.set i e }

/-- The checks and effect of PROGRAM_DEFINE (R36). -/
def programDefine (sender : StationId) (programId revision : Nat) (signature : Signature) (estimate : Nat) (s : State) : Reply :=
  if !(programOk programId revision && within 1 1800 estimate) then refuse s .badFormat
  else if (s.libraryIndex? ⟨programId, revision⟩).isSome then refuse s .duplicate
  else
    match lowestIndex (fun i : LibIx => (s.library[i]).isNone) with
    | none => refuse s .tableFull
    | some i =>
      accept (s.setLibrary i (some { program := ⟨programId, revision⟩, signature := signature, estimate := estimate
                                     defineTime := s.floorTime, definedBy := sender, withdrawal := none })) (.libraryEntry i)

/-- PROGRAM_DEFINE (R36). -/
def execProgramDefine (m : Msg) (programId revision : Nat) (signature : Signature) (estimate : Nat) (s : State) : Out :=
  s.request .programDefine m anyPayload (programDefine m.sender programId revision signature estimate)

/-! ### PROGRAM_WITHDRAW -/

/-- A lot is RESERVED with a resolved program (R105). -/
def Lot.reservedWith (p : Program) (l : Lot) : Bool :=
  match l.state with
  | .reserved _ _ r => r.program = p
  | _ => false

/-- Every reservation of a lot resolved to a program is cancelled (R105, step 1). -/
def State.cancelAll (s : State) (p : Program) : State :=
  (s.lots.filter (Lot.reservedWith p)).foldl (fun s l => s.cancelReservation l.slot false) s

/-- A tester's slots after a withdrawal: a staged slot in LOADING or LOADED with the program becomes EMPTY, an active slot with
it receives the withdrawn mark (R105, steps 2 and 3). -/
def Tester.withdraw (p : Program) (t : Tester) : Tester :=
  { t with staged := if t.stagedHolds p then none else t.staged
           active := t.active.map (fun a => if a.program = p then { a with withdrawn := true } else a) }

/-- PROGRAM_WITHDRAWN is placed on the current lot of the handler docked to a tester, when its run in progress records the
program (R105, step 3). -/
def State.holdRunning (p : Program) (s : State) (t : TesterId) : State :=
  match s.testers[t].docked with
  | none => s
  | some h =>
    match s.handlers[h].cell.current with
    | none => s
    | some k =>
      match s.lot? k with
      | none => s
      | some l =>
        if l.runInProgress.any (fun r => r.program = p) then (s.placeHold k .programWithdrawn none 0).1 else s

/-- The ready conditions are checked on the handler docked to a tester. -/
def State.readyCheckAt (s : State) (t : TesterId) : State :=
  match s.testers[t].docked with
  | some h => s.readyCheck h
  | none => s

/-- The testers at which a condition holds, in order. -/
def testersWhere (f : TesterId → Bool) : List TesterId := (List.finRange 16).filter f

/-- A withdrawal applied across the part (R105): reservations cancelled, slots emptied and marked, running lots held, the ends
of loads followed, and the ready conditions checked where a tester's slots changed. -/
def State.applyWithdrawal (s : State) (p : Program) : State :=
  let s1 := s.cancelAll p
  let emptied := testersWhere (fun t => s1.testers[t].stagedHolds p)
  let marked := testersWhere (fun t => s1.testers[t].activeHolds p)
  let changed := testersWhere (fun t => s1.testers[t].stagedHolds p || s1.testers[t].activeHolds p)
  let s2 := { s1 with testers := vecMap (Tester.withdraw p) s1.testers }
  let s3 := marked.foldl (State.holdRunning p) s2
  changed.foldl State.readyCheckAt (emptied.foldl State.loadEnded s3)

/-- The checks and effect of PROGRAM_WITHDRAW (R37). -/
def programWithdraw (sender : StationId) (programId revision : Nat) (s : State) : Reply :=
  if !programOk programId revision then refuse s .badFormat
  else
    match s.libraryIndex? ⟨programId, revision⟩ with
    | none => refuse s .noSuchEntry
    | some i =>
      match s.library[i] with
      | none => refuse s .noSuchEntry
      | some e =>
        if e.withdrawal.isSome then refuse s .wrongState
        else
          accept ((s.setLibrary i (some { e with withdrawal := some ⟨s.floorTime, sender⟩ })).applyWithdrawal
            ⟨programId, revision⟩) .nothing

/-- PROGRAM_WITHDRAW (R37). -/
def execProgramWithdraw (m : Msg) (programId revision : Nat) (s : State) : Out :=
  s.request .programWithdraw m anyPayload (programWithdraw m.sender programId revision)

/-! ### PROGRAM_REMOVE and PROGRAM_QUERY -/

/-- The number of testers holding a program in the active slot (R39). -/
def State.activeHolders (s : State) (p : Program) : Nat := countIndexes (fun t : TesterId => s.testers[t].activeHolds p)

/-- The number of testers holding a program in the staged slot in LOADING or LOADED (R39). -/
def State.stagedHolders (s : State) (p : Program) : Nat := countIndexes (fun t : TesterId => s.testers[t].stagedHolds p)

/-- The checks and effect of PROGRAM_REMOVE (R38). -/
def programRemove (programId revision : Nat) (s : State) : Reply :=
  if !programOk programId revision then refuse s .badFormat
  else
    match s.libraryIndex? ⟨programId, revision⟩ with
    | none => refuse s .noSuchEntry
    | some i =>
      if s.isReleased ⟨programId, revision⟩ || s.activeHolders ⟨programId, revision⟩ ≠ 0 ||
          s.stagedHolders ⟨programId, revision⟩ ≠ 0 then refuse s .inUse
      else accept (s.setLibrary i none) (.libraryEntry i)

/-- PROGRAM_REMOVE (R38). -/
def execProgramRemove (m : Msg) (programId revision : Nat) (s : State) : Out :=
  s.request .programRemove m anyPayload (programRemove programId revision)

/-- The content of a library entry with its holder counts (R39). -/
def State.libraryAnswer (s : State) (i : LibIx) (absent : Result) : Reply :=
  match s.library[i] with
  | some e => accept s (.program i e (s.activeHolders e.program) (s.stagedHolders e.program))
  | none => refuse s absent

/-- The lowest-numbered occupied entry above the number given, if one is (R39). -/
def State.nextLibrary? (s : State) (after : Option Nat) : Option LibIx :=
  lowestIndex (fun i : LibIx => after.all (fun n => n < i.val) && (s.library[i]).isSome)

/-- A scan of the library (R39). -/
def State.libraryScan (s : State) (after : Option Nat) : Reply :=
  match s.nextLibrary? after with
  | some i => s.libraryAnswer i .empty
  | none => refuse s .empty

/-- The checks and answer of PROGRAM_QUERY (R39). -/
def programQuery (key : LibraryKey) (s : State) : Reply :=
  match key with
  | .revision programId revision =>
    if !programOk programId revision then refuse s .badFormat
    else
      match s.libraryIndex? ⟨programId, revision⟩ with
      | some i => s.libraryAnswer i .noSuchEntry
      | none => refuse s .noSuchEntry
  | .scanFirst => s.libraryScan none
  | .scanAfter n => if 127 < n then refuse s .badFormat else s.libraryScan (some n)

/-- PROGRAM_QUERY (R39). -/
def execProgramQuery (m : Msg) (key : LibraryKey) (s : State) : Out := s.request .programQuery m anyPayload (programQuery key)

end Sys2Proof.Machine
end

