-- ==== Sys2Proof/Machine/Reset.lean ====
section
/-! DEFINITION. Machine/Reset.lean: the two resets and the release of RESETN (R22, R86, R106, R131, R139, R167, R185). -/

namespace Sys2Proof.Machine

/-- The bit rate that the straps RATE1 and RATE0 select (R167). -/
def bitRateOf (rate1 rate0 : Bool) : BitRate :=
  match rate1, rate0 with
  | false, false => .kbit125
  | false, true => .kbit250
  | true, false => .kbit500
  | true, true => .kbit1000

/-- Power is applied: every table, counter and buffer takes its power-on value, and the straps are read (R167, R185). -/
def powerOn (rate1 rate0 : Bool) (s : State) : State :=
  { State.reset with link := { State.reset.link with bitRate := bitRateOf rate1 rate0 }, pending := s.pending }

/-- POWER_ON_RESET (R185). -/
def execPowerOnReset (rate1 rate0 : Bool) (s : State) : Out := .next (powerOn rate1 rate0 s)

/-! ### The line reset -/

/-- A lot is RUNNING or DRAINING. -/
def Lot.onHandler (l : Lot) : Bool := l.state.currentHandler?.isSome

/-- INTERRUPTED is placed on every RUNNING or DRAINING lot, with HOLD_PLACED for each entry added (R139). -/
def State.placeInterrupted (s : State) : State :=
  (s.lots.filter Lot.onHandler).foldl (fun s l => (s.addHold l.slot .interrupted none 0).1) s

/-- A lot after a line reset: a RUNNING or DRAINING lot has its run ended and is HELD with its step open, a RESERVED lot is
QUEUED with the queue fields it held (R22, R48). -/
def Lot.afterLineReset (t : Time) (l : Lot) : Lot :=
  match l.state with
  | .running _ _ => { l with state := .held, cur := { l.cur with runs := endRun t l.cur.runs } }
  | .draining _ _ _ => { l with state := .held, cur := { l.cur with runs := endRun t l.cur.runs } }
  | .reserved w _ _ => { l with state := .queued w }
  | _ => l

/-- A handler after a line reset: OFFLINE with its temperature forgotten and its countdowns stopped at 0 (R86). -/
def Handler.afterLineReset (x : Handler) : Handler :=
  { x with cell := .offline, thermal := .unknown, setpoint := none, target := none, soakLeft := 0, requiredKit := none
           stallLeft := 0, stalled := false }

/-- The Link Interface after a line reset: both queues emptied, the counters kept (R185). -/
def Link.afterLineReset (k : Link) : Link := { k with rxBuffer := [], responses := [] }

/-- The effects of a line reset (R22, R86, R94, R106, R131, R139, R185). -/
def State.lineReset (s : State) : State :=
  let s1 := s.placeInterrupted
  { s1 with
    lots := s1.lots.map (Lot.afterLineReset s.floorTime)
    handlers := vecMap Handler.afterLineReset s1.handlers
    testers := vecMap (fun t => { t with staged := none }) s1.testers
    deviations := vecMap (Option.map (fun d => { d with pending := 0 })) s1.deviations
    guards := Vector.replicate 16 none
    link := s1.link.afterLineReset
    resetCause := .line
    lineResets := holdAt Config.lineResetMax (s1.lineResets + 1)
    inReset := true }

/-- LINE_RESET: RESETN goes low while power is applied (R185). RESETN that is low already does not go low. -/
def execLineReset (s : State) : Out := if s.inReset then .next s else .next s.lineReset

/-- RESETN returns high: PART_RESET is marked for every enrolled station, the straps are read and the divider restarts
(R167, R182, R185). -/
def State.leaveReset (s : State) (rate1 rate0 : Bool) : State :=
  { (s.markRoles Role.all .partReset 0) with
    link := { s.link with bitRate := bitRateOf rate1 rate0 }
    divider := 0
    inReset := false }

/-- RESET_RELEASE (R185). RESETN that is high already does not return high. -/
def execResetRelease (rate1 rate0 : Bool) (s : State) : Out :=
  if s.inReset then .next (s.leaveReset rate1 rate0) else .next s

end Sys2Proof.Machine
end

