-- ==== Sys2Proof/Machine/Selection.lean ====
section
/-! DEFINITION. Machine/Selection.lean: CALL_WORK, LOT_BEGIN, LOT_PRIORITY, QUEUE_QUERY and DISPATCH_CONFIG (R49, R58, R59,
R64 to R66, R104). -/

namespace Sys2Proof.Machine

/-! ### CALL_WORK -/

/-- The answer to a CALL_WORK that reserved a lot (R49). -/
def State.workAnswer (s s1 : State) (h : HandlerId) (l : Lot) (c : Choice) : Body :=
  .workChosen l.id l.slot l.stepNumber (s.stepOf l).setpoint (s.stepOf l).kit (s.resolve l) c s1.handlers[h].cell.name

/-- CALL_WORK for a handler (R49). -/
def State.callWorkOn (s : State) (h : HandlerId) : Reply :=
  if s.handlers[h].lock.isSome then refuse s .locked
  else if s.handlers[h].cell ≠ .idle || s.handlers[h].docked.isNone then refuse s .wrongState
  else
    match s.select h with
    | none => refuse s .empty
    | some (l, c) => accept (s.reserve h l) (s.workAnswer (s.reserve h l) h l c)

/-- The checks and effect of CALL_WORK (R49). -/
def callWork (sender : StationId) (s : State) : Reply :=
  match s.stations[sender].bound with
  | none => refuse s .notPermitted
  | some h => s.callWorkOn h

/-- CALL_WORK (R49). -/
def execCallWork (m : Msg) (s : State) : Out := s.request .callWork m anyPayload (callWork m.sender)

/-! ### LOT_BEGIN -/

/-- A tester after the swap at the begin of a lot with a resolved program: kept when the program is in the active slot, and
otherwise the staged program becomes active and the staged slot EMPTY (R104). -/
def Tester.swapTo (p : Program) (t : Tester) : Tester :=
  if t.activeHolds p then t
  else
    match t.staged with
    | some g => { t with active := some { program := g.program, signature := g.expected, withdrawn := false }, staged := none }
    | none => t

/-- A deviation entry after a lot begins under it: remaining and pending down, hits up; emptied at remaining 0 (R94). -/
def Deviation.begun (e : Deviation) : Option Deviation :=
  if e.remaining - 1 = 0 then none
  else some { e with remaining := e.remaining - 1, pending := e.pending - 1, hits := holdAt Config.hitMax (e.hits + 1) }

/-- The deviation accounting of a lot's begin (R59, R94). -/
def State.useDeviation (s : State) (d : Option DevId) : State :=
  match d with
  | some i => s.updDeviation i (fun o => o.bind Deviation.begun)
  | none => s

/-- The run entry of a lot that begins (R59). -/
def State.newRun (s : State) (h : HandlerId) (t : TesterId) (r : Resolved) : RunEntry :=
  { handler := h, tester := t, program := r.program, deviation := r.deviation, beginTime := s.floorTime, endTime := none
    gapTotal := 0 }

/-- The guard's run of a lot that begins (R108). -/
def freshRun (k : Slot) (run : Nat) : GuardRun :=
  { lot := k, run := run, lastIndex := none, ring := [], sites := Vector.replicate 8 { tested := 0, good := 0 } }

/-- The stall time of a handler. -/
def Handler.stallTime (x : Handler) : Nat := (x.config.map (·.stallTime)).getD 0

/-- A lot that begins: the run appended, the queue fields gone, RUNNING (R59). -/
def Lot.begin (h : HandlerId) (r : Resolved) (run : RunEntry) (l : Lot) : Lot :=
  { l with state := .running h r, deviationUsed := l.deviationUsed || r.deviation.isSome
           cur := { l.cur with runs := l.cur.runs ++ [run] } }

/-- A handler whose reserved lot begins: RUNNING, its stall countdown started (R59, R84). -/
def Handler.begin (k : Slot) (x : Handler) : Handler :=
  { x with cell := .running k none, stallLeft := x.stallTime, stalled := false }

/-- LOT_BEGIN taken for a reserved lot on a handler with its docked tester (R59). -/
def State.beginLot (s : State) (h : HandlerId) (t : TesterId) (l : Lot) (r : Resolved) : Reply :=
  let run := s.newRun h t r
  let s1 := ((s.updTester t (Tester.swapTo r.program)).useDeviation r.deviation).updLot l.slot (Lot.begin h r run)
  let s2 := s1.updHandler h (Handler.begin l.slot)
  let number := l.cur.runs.length + 1
  accept { s2 with guards := s2.guards.set h (some (freshRun l.slot number)) }
    (.lotBegun number s.floorTime r.program r.deviation)

/-- LOT_BEGIN of a lot that is in the table and not HELD, for a handler (R58): the handler is READY, and the lot is its
reserved lot. -/
def State.beginOn (s : State) (h : HandlerId) (l : Lot) : Reply :=
  match s.handlers[h].cell with
  | .ready k =>
    if l.slot ≠ k then refuse s .mismatch
    else
      match s.handlers[h].docked, l.state.resolved? with
      | some t, some r => s.beginLot h t l r
      | _, _ => refuse s .wrongState
  | _ => refuse s .wrongState

/-- The checks and effect of LOT_BEGIN (R58, R59). -/
def lotBegin (sender : StationId) (lot : Text) (s : State) : Reply :=
  if !lotIdOk lot then refuse s .badFormat
  else
    match s.lotNamed? lot with
    | none => refuse s .noSuchLot
    | some l =>
      if l.state = .held then refuse s .lotHeld
      else
        match s.stations[sender].bound with
        | none => refuse s .notPermitted
        | some h => s.beginOn h l

/-- LOT_BEGIN (R58, R59). -/
def execLotBegin (m : Msg) (lot : Text) (s : State) : Out := s.request .lotBegin m anyPayload (lotBegin m.sender lot)

/-! ### LOT_PRIORITY -/

/-- The position of a lot that is QUEUED, in the queue of its class (R64). -/
def State.positionOf (s : State) (k : Slot) : Option Nat :=
  match s.lot? k with
  | some l => if l.isQueued then some (s.queuePosition l) else none
  | none => none

/-- The checks and effect of LOT_PRIORITY (R64). -/
def lotPriority (lot : Text) (priority : Nat) (s : State) : Reply :=
  if !(lotIdOk lot && priority ≤ 3) then refuse s .badFormat
  else
    match s.lotNamed? lot with
    | none => refuse s .noSuchLot
    | some l =>
      if l.state.wait?.isSome then
        let s1 := s.updLot l.slot (fun l => { l with priority := priority })
        accept s1 (.priority l.state.name (s1.positionOf l.slot))
      else refuse s .wrongState

/-- LOT_PRIORITY (R64). -/
def execLotPriority (m : Msg) (lot : Text) (priority : Nat) (s : State) : Out :=
  s.request .lotPriority m anyPayload (lotPriority lot priority)

/-! ### QUEUE_QUERY and DISPATCH_CONFIG -/

/-- One lot as QUEUE_QUERY lists it: slot, priority class, queue age in whole minutes, and the overdue mark (R65). -/
def State.queueRow (s : State) (l : Lot) : Slot × Nat × Nat × Bool := (l.slot, l.priority, l.age / 60, s.overdue l)

/-- The checks and answer of QUEUE_QUERY (R65). -/
def queueQuery (queue : Option TempClass) (start : Nat) (s : State) : Reply :=
  match queue with
  | none => refuse s .badFormat
  | some c =>
    let q := s.queue c
    if q.length ≤ start then ⟨.empty, .queueLength q.length, s⟩
    else accept s (.queue q.length (((q.drop start).take 10).map s.queueRow))

/-- QUEUE_QUERY (R65). -/
def execQueueQuery (m : Msg) (queue : Option TempClass) (start : Nat) (s : State) : Out :=
  s.request .queueQuery m anyPayload (queueQuery queue start)

/-- DISPATCH_CONFIG: values are stored within their maxima, and refused outside the ranges it carries; without values it changes
nothing (R66, R175). -/
def dispatchConfig (given : Option SettingsGiven) (s : State) : Reply :=
  match given with
  | none => accept s (.settings s.settings)
  | some g =>
    if !settingsGivenOk g then refuse s .badFormat
    else accept { s with settings := storeSettings g } (.settings (storeSettings g))

/-- DISPATCH_CONFIG (R66). -/
def execDispatchConfig (m : Msg) (settings : Option SettingsGiven) (s : State) : Out :=
  s.request .dispatchConfig m anyPayload (dispatchConfig settings)

end Sys2Proof.Machine
end

