-- ==== Sys2Proof/Machine/Shipment.lean ====
section
/-! DEFINITION. Machine/Shipment.lean: endorsements, their withdrawal, collection, and the queries of the release queue and
the release-waiting list (R151 to R164). -/

namespace Sys2Proof.Machine

/-! ### LOT_ENDORSE and ENDORSE_WITHDRAW -/

/-- The role of a role code in which an endorsement may be given: QUALITY, DOCK or ENGINEERING (R152). -/
def endorsingRole? (n : Nat) : Option Role := (Role.ofCode? n).filter (fun r => [Role.quality, .dock, .engineering].contains r)

/-- A lot's list holds an entry of a station. -/
def Lot.endorsedBy (l : Lot) (i : StationId) : Bool := l.endorsements.any (fun e => e.station = i)

/-- A lot's list holds an entry of a role. -/
def Lot.endorsedIn (l : Lot) (r : Role) : Bool := l.endorsements.any (fun e => e.role = r)

/-- A lot with an endorsement appended (R153). -/
def Lot.endorse (e : Endorsement) (l : Lot) : Lot := { l with endorsements := l.endorsements ++ [e] }

/-- The place of a lot on the release-waiting list, counted from 0 at the oldest. -/
def State.waitingPlace (s : State) (k : Slot) : Nat := s.waitingList.findIdx (fun l => l.slot = k)

/-- The Release Unit on the last required endorsement of a lot: released while the queue has room, and otherwise placed on the
release-waiting list (R153). -/
def State.lastEndorsement (s : State) (l : Lot) : Reply :=
  if s.releaseQueue.length < Config.releaseMax then
    accept (s.release l) (.endorsed .released [] (some s.releaseQueue.length))
  else
    accept (s.joinWaiting l.slot) (.endorsed .complete [] (some ((s.joinWaiting l.slot).waitingPlace l.slot)))

/-- LOT_ENDORSE taken for a lot (R153). -/
def State.endorse (s : State) (l : Lot) (e : Endorsement) : Reply :=
  let l1 := l.endorse e
  let s1 := s.updLot l.slot (Lot.endorse e)
  if l1.missingRoles.isEmpty then s1.lastEndorsement l1 else accept s1 (.endorsed .complete l1.missingRoles none)

/-- The checks of LOT_ENDORSE on a lot that is in the table (R152). -/
def State.endorseOn (s : State) (sender : StationId) (l : Lot) (r : Role) : Reply :=
  if !(s.rolesOf sender).has r then refuse s .notPermitted
  else if l.state = .held then refuse s .lotHeld
  else if l.state.name ≠ .complete then refuse s .wrongState
  else if r = .engineering && !l.needsEngineering then refuse s .wrongState
  else if l.endorsedBy sender then refuse s .duplicate
  else if l.endorsedIn r then refuse s .duplicate
  else s.endorse l { station := sender, role := r, time := s.floorTime }

/-- The checks and effect of LOT_ENDORSE (R152, R153). -/
def lotEndorse (sender : StationId) (lot : Text) (role : Nat) (s : State) : Reply :=
  match lotIdOk lot, endorsingRole? role with
  | true, some r =>
    match s.lotNamed? lot with
    | none => refuse s .noSuchLot
    | some l => s.endorseOn sender l r
  | _, _ => refuse s .badFormat

/-- LOT_ENDORSE (R152). -/
def execLotEndorse (m : Msg) (lot : Text) (role : Nat) (s : State) : Out :=
  s.request .lotEndorse m anyPayload (lotEndorse m.sender lot role)

/-- A COMPLETE lot with a station's entry withdrawn and its release-waiting stamp removed (R154). -/
def Lot.withdraw (i : StationId) (l : Lot) : Lot :=
  { l with state := .complete none, endorsements := l.endorsements.filter (fun e => e.station ≠ i) }

/-- The checks and effect of ENDORSE_WITHDRAW (R154). -/
def endorseWithdraw (sender : StationId) (lot : Text) (s : State) : Reply :=
  if !lotIdOk lot then refuse s .badFormat
  else
    match s.lotNamed? lot with
    | none => refuse s .noSuchLot
    | some l =>
      if l.state.name ≠ .complete then refuse s .wrongState
      else if !l.endorsedBy sender then refuse s .noSuchEntry
      else
        accept (s.updLot l.slot (Lot.withdraw sender)) (.withdrawn (l.withdraw sender).endorsements l.state.waiting?.isSome)

/-- ENDORSE_WITHDRAW (R154). -/
def execEndorseWithdraw (m : Msg) (lot : Text) (s : State) : Out :=
  s.request .endorseWithdraw m anyPayload (endorseWithdraw m.sender lot)

/-! ### SHIP_COLLECT -/

/-- The position of a slot's record in the release queue. -/
def State.recordPosition? (s : State) (k : Slot) : Option Nat := s.releaseQueue.findIdx? (fun r => r.slot = k)

/-- The release record of a slot. -/
def State.recordOf? (s : State) (k : Slot) : Option ReleaseRecord := s.releaseQueue.find? (fun r => r.slot = k)

/-- A released lot collected: its record leaves the queue, the lot leaves the table, and the freed place is offered (R160). -/
def State.collect (s : State) (k : Slot) : State := ((s.dropRecord k).dropLot k).offerPlace

/-- The checks and effect of SHIP_COLLECT (R160). -/
def shipCollect (lot : Text) (s : State) : Reply :=
  if !lotIdOk lot then refuse s .badFormat
  else
    match s.lotNamed? lot with
    | none => refuse s .noSuchLot
    | some l =>
      if l.state ≠ .released then refuse s .notReleased
      else
        match s.recordOf? l.slot with
        | some r => accept (s.collect l.slot) (.shipped r)
        | none => refuse s .notReleased

/-- SHIP_COLLECT (R160). -/
def execShipCollect (m : Msg) (lot : Text) (s : State) : Out := s.request .shipCollect m anyPayload (shipCollect lot)

/-! ### RELEASE_QUERY -/

/-- The records of a queue from a starting position on, at most 5, each with its position (R164). -/
def State.queueRows (s : State) (start : Nat) : List (Nat × Slot × Nat × Time) :=
  ((s.releaseQueue.zipIdx.drop start).take 5).map (fun x => (x.2, x.1.slot, x.1.quantity, x.1.time))

/-- The lots of the release-waiting list from a starting place on, at most 5 (R164). -/
def State.waitingRows (s : State) (start : Nat) : List (Slot × Nat × Nat) :=
  ((s.waitingList.drop start).take 5).map (fun l => (l.slot, l.waitingStamp, l.cur.good))

/-- The RECORD answer for the record of a slot (R164). -/
def State.recordAnswer (s : State) (k : Slot) (absent : Result) : Reply :=
  match s.recordOf? k, s.recordPosition? k with
  | some r, some n => accept s (.releaseRecord r n)
  | _, _ => refuse s absent

/-- The RECORD answer for a lot id (R164). -/
def State.recordOfLot (s : State) (lot : Text) : Reply :=
  if !lotIdOk lot then refuse s .badFormat
  else
    match s.lotNamed? lot with
    | none => refuse s .noSuchLot
    | some l => if l.state ≠ .released then refuse s .notReleased else s.recordAnswer l.slot .notReleased

/-- The RECORD answer for a position (R164). -/
def State.recordAt (s : State) (n : Nat) : Reply :=
  if 31 < n then refuse s .badFormat
  else
    match s.releaseQueue[n]? with
    | some r => accept s (.releaseRecord r n)
    | none => refuse s .noSuchEntry

/-- The checks and answer of RELEASE_QUERY (R164). -/
def releaseQuery (part : ReleasePart) (s : State) : Reply :=
  let records := s.releaseQueue.length
  let waiting := s.waitingList.length
  match part with
  | .queue start =>
    if records ≤ start then ⟨.empty, .releaseLengths records waiting, s⟩
    else accept s (.releaseQueue records waiting (s.queueRows start))
  | .waiting start =>
    if waiting ≤ start then ⟨.empty, .releaseLengths records waiting, s⟩
    else accept s (.waitingList waiting (s.waitingRows start))
  | .recordOf lot => s.recordOfLot lot
  | .recordAt n => s.recordAt n
  | .other => refuse s .badFormat

/-- RELEASE_QUERY (R164). -/
def execReleaseQuery (m : Msg) (part : ReleasePart) (s : State) : Out :=
  s.request .releaseQuery m anyPayload (releaseQuery part)

end Sys2Proof.Machine
end

