-- ==== Sys2Proof/Machine/Stations.lean ====
section
/-! DEFINITION. Machine/Stations.lean: enrolment, removal, and a station's attention set and mask (R176 to R181). -/

namespace Sys2Proof.Machine

/-- A handler has a current or a reserved lot. -/
def Handler.busy (x : Handler) : Bool := x.cell.current.isSome || x.cell.reserved.isSome

/-- The kinds whose units are handlers: codes 0 to 7 (R177). -/
def AttentionKind.carriesHandlers (k : AttentionKind) : Bool := k.code ≤ 7

/-- A mark that a station keeps when it is enrolled anew (R178): its kind is in the new mask, and a handler-carrying kind keeps
only the units of the handler the station is bound to, but for STALLED with the role FLOOR.  A mark left without units goes
(DEDUCED, `notes/assumptions/10.md`).  DESIGN CHOICE (`notes/assumptions/23.md`, unsafe): FLOOR, and the handler the station is
bound to, are looked for in the enrolment given, not in the one before it. -/
def keepMark (roles : RoleSet) (bound : Option HandlerId) (m : Mark) : Option Mark :=
  if !(fullMask roles).has m.kind then none
  else if m.kind.carriesHandlers && !(m.kind = .stalled && roles.has .floor) then
    match bound with
    | some h => if m.units &&& unitBit h = 0 then none else some { m with units := m.units &&& unitBit h }
    | none => none
  else some m

/-- A station entry after STATION_ENROLL (R178). -/
def Station.enroll (roles : RoleSet) (bound : Option HandlerId) (x : Station) : Station :=
  { enrolled := true, roles := roles, bound := bound, mask := fullMask roles
    attention := if x.enrolled then x.attention.filterMap (keepMark roles bound) else [] }

/-- The handlers' bound stations after a station's binding becomes the one given: the old handler's becomes absent, the new
one's becomes the station (R178). -/
def State.bind (s : State) (i : StationId) (old new : Option HandlerId) : State :=
  let s1 := match old with
    | some h => s.updHandler h (fun x => { x with bound := none })
    | none => s
  match new with
  | some h => s1.updHandler h (fun x => { x with bound := some i })
  | none => s1

/-- The BUSY check of STATION_ENROLL: an enrolled station would leave its handler while that handler or the handler given has a
current or reserved lot (R178). -/
def State.rebindBusy (s : State) (i : StationId) (new : Option HandlerId) : Bool :=
  match s.stations[i].bound with
  | none => false
  | some h => s.stations[i].enrolled && new ≠ some h && (s.handlers[h].busy || new.any (fun g => s.handlers[g].busy))

/-- The handler given is bound to another station (R178). -/
def State.boundElsewhere (s : State) (i : StationId) (new : Option HandlerId) : Bool :=
  new.any (fun h => s.handlers[h].bound.any (fun j => j ≠ i))

/-- The checks and effect of STATION_ENROLL (R178). -/
def stationEnroll (station : Nat) (roles : Byte) (handler : Option Nat) (s : State) : Reply :=
  let rs : RoleSet := roles.setWidth 6
  match indexOfNumber? station 31 with
  | none => refuse s .badFormat
  | some i =>
    if i = 0 || roles = 0 || 64 ≤ roles.toNat then refuse s .badFormat
    else
      let new := handler.bind (fun n => indexOfNumber? n 16)
      if rs.has .cell && new.isNone || !rs.has .cell && handler.isSome then refuse s .badFormat
      else if s.boundElsewhere i new then refuse s .inUse
      else if s.rebindBusy i new then refuse s .busy
      else accept ((s.bind i s.stations[i].bound new).updStation i (Station.enroll rs new)) (.enrolled s.stations[i].enrolled)

/-- STATION_ENROLL (R178). -/
def execStationEnroll (m : Msg) (station : Nat) (roles : Byte) (handler : Option Nat) (s : State) : Out :=
  s.request .stationEnroll m anyPayload (stationEnroll station roles handler)

/-- The checks and effect of STATION_REMOVE (R179). -/
def stationRemove (station : Nat) (s : State) : Reply :=
  match indexOfNumber? station 31 with
  | none => refuse s .badFormat
  | some i =>
    if i = 0 then refuse s .notPermitted
    else if !s.stations[i].enrolled then refuse s .noSuchEntry
    else accept ((s.bind i s.stations[i].bound none).updStation i (fun _ => Station.initial)) .nothing

/-- STATION_REMOVE (R179). -/
def execStationRemove (m : Msg) (station : Nat) (s : State) : Out := s.request .stationRemove m anyPayload (stationRemove station)

/-- ATTENTION_READ answers the sender's attention set and empties it in the same event (R180). -/
def attentionRead (sender : StationId) (s : State) : Reply :=
  accept (s.updStation sender (fun x => { x with attention := [] })) (.attention s.stations[sender].attention)

/-- ATTENTION_READ (R180). -/
def execAttentionRead (m : Msg) (s : State) : Out :=
  s.request .attentionRead m (readsAs readEmpty m.fits ()) (attentionRead m.sender)

/-- The mask that a given set of kinds makes for a role set: less the kinds the roles cannot receive, plus PART_RESET (R181). -/
def maskFor (roles : RoleSet) (kinds : BitVec 16) : KindSet :=
  (kinds.setWidth 13 &&& fullMask roles) ||| KindSet.ofList [.partReset]

/-- The checks and effect of ATTENTION_MASK (R181). -/
def attentionMask (sender : StationId) (kinds : Option (BitVec 16)) (s : State) : Reply :=
  match kinds with
  | none => accept s (.mask s.stations[sender].mask)
  | some ks =>
    if 8192 ≤ ks.toNat then refuse s .badFormat
    else
      let mask := maskFor s.stations[sender].roles ks
      accept (s.updStation sender (fun x =>
        { x with mask := mask, attention := x.attention.filter (fun m => mask.has m.kind) })) (.mask mask)

/-- ATTENTION_MASK (R181). -/
def execAttentionMask (m : Msg) (kinds : Option (BitVec 16)) (s : State) : Out :=
  s.request .attentionMask m (readsAs readAttentionMask m.fits kinds) (attentionMask m.sender kinds)

end Sys2Proof.Machine
end

