-- ==== Sys2Proof/Machine/Testers.lean ====
section
/-! DEFINITION. Machine/Testers.lean: tester configuration, staging loads by hand, the report and the abort of a load, and
the deviation table (R87 to R103). -/

namespace Sys2Proof.Machine

/-! ### TESTER_CONFIG -/

/-- The sender may configure a tester: by role, or as lock holder of the docked handler (R89). -/
def State.mayConfigure (s : State) (sender : StationId) (t : TesterId) : Bool :=
  (s.rolesOf sender).hasAny [.supervisor, .engineering] || s.testers[t].docked.any (fun h => s.handlers[h].lock = some sender)

/-- The docked handler of a tester, if any, is locked by a station other than the sender (R89). -/
def State.testerLocked (s : State) (sender : StationId) (t : TesterId) : Bool :=
  s.testers[t].docked.any (fun h => s.lockedAgainst sender h)

/-- The checks of TESTER_CONFIG that its three actions share, and then an action on the tester (R89). -/
def State.configureTester (s : State) (sender : StationId) (tester : Nat) (action : TesterId → Reply) : Reply :=
  match indexOfNumber? tester 16 with
  | none => refuse s .badFormat
  | some t =>
    if !s.mayConfigure sender t then refuse s .notPermitted
    else if s.testerLocked sender t then refuse s .locked
    else action t

/-- The answer of a TESTER_CONFIG that was taken: the configured flag and both slots (R89). -/
def State.testerSlots (s : State) (t : TesterId) : Reply :=
  accept s (.testerSlots s.testers[t].configured s.testers[t].active s.testers[t].staged)

/-- The ENABLE action (R89). -/
def State.enableTester (s : State) (t : TesterId) : Reply :=
  (s.updTester t (fun x => { x with configured := true })).testerSlots t

/-- TESTER_CONFIG with ENABLE (R89). -/
def execTesterConfigEnable (m : Msg) (tester : Nat) (s : State) : Out :=
  s.request .testerConfig m anyPayload (fun s => s.configureTester m.sender tester s.enableTester)

/-- The DISABLE action (R89). -/
def State.disableTester (s : State) (t : TesterId) : Reply :=
  if s.testers[t].docked.isSome then refuse s .inUse
  else if !s.testers[t].configured then refuse s .wrongState
  else if s.testers[t].loading then refuse s .busy
  else (s.updTester t (fun x => { x with configured := false, active := none, staged := none })).testerSlots t

/-- TESTER_CONFIG with DISABLE (R89). -/
def execTesterConfigDisable (m : Msg) (tester : Nat) (s : State) : Out :=
  s.request .testerConfig m anyPayload (fun s => s.configureTester m.sender tester s.disableTester)

/-- The CLEAR_ACTIVE action (R89). -/
def State.clearActive (s : State) (t : TesterId) : Reply :=
  if !s.testers[t].configured then refuse s .wrongState
  else if s.testers[t].docked.any (fun h => !s.handlers[h].cell.outOfWork) then refuse s .busy
  else (s.updTester t (fun x => { x with active := none })).testerSlots t

/-- TESTER_CONFIG with CLEAR_ACTIVE (R89). -/
def execTesterConfigClearActive (m : Msg) (tester : Nat) (s : State) : Out :=
  s.request .testerConfig m anyPayload (fun s => s.configureTester m.sender tester s.clearActive)

/-- The checks and answer of TESTER_QUERY: every field, with the library states of its programs (R90). -/
def testerQuery (tester : Nat) (s : State) : Reply :=
  match indexOfNumber? tester 16 with
  | none => refuse s .badFormat
  | some t =>
    accept s (.tester s.testers[t] (s.testers[t].active.map (fun a => s.libraryStateOf a.program))
      (s.testers[t].staged.map (fun g => s.libraryStateOf g.program)))

/-- TESTER_QUERY (R90). -/
def execTesterQuery (m : Msg) (tester : Nat) (s : State) : Out := s.request .testerQuery m anyPayload (testerQuery tester)

/-! ### Loads -/

/-- The checks and effect of STAGE_PROGRAM on a tester for a program in the library (R102). -/
def State.stageOn (s : State) (t : TesterId) (p : Program) (e : LibraryEntry) : Reply :=
  if e.withdrawal.isSome then refuse s .wrongState
  else if s.testers[t].docked.any (fun h => s.handlers[h].cell.reserved.isSome) then refuse s .busy
  else if s.testers[t].loading then refuse s .busy
  else if s.testers[t].atHand p then refuse s .duplicate
  else accept (s.startLoad t p 1) (.deadline (2 * e.estimate))

/-- The checks and effect of STAGE_PROGRAM (R102). -/
def stageProgram (tester programId revision : Nat) (s : State) : Reply :=
  match indexOfNumber? tester 16 with
  | none => refuse s .badFormat
  | some t =>
    if !programOk programId revision then refuse s .badFormat
    else if !s.testers[t].configured then refuse s .wrongState
    else
      match s.revision? ⟨programId, revision⟩ with
      | none => refuse s .noSuchEntry
      | some e => s.stageOn t ⟨programId, revision⟩ e

/-- STAGE_PROGRAM (R102). -/
def execStageProgram (m : Msg) (tester programId revision : Nat) (s : State) : Out :=
  s.request .stageProgram m anyPayload (stageProgram tester programId revision)

/-- A staged slot in LOADING once its report is taken: LOADED when the signature is the expected one, FAULT otherwise; the
deadline stops (R99). -/
def Staged.report (signature : Signature) (g : Staged) : Staged :=
  { g with state := if signature = g.expected then .loaded else .fault .signature, reported := some signature }

/-- The report of a load's end on a tester (R99).  DEDUCED (assumption 20, unsafe): the slot state answered is the one the report
itself gives, LOADED or FAULT, whatever retry or deferred start the end of the load then brings (R100). -/
def State.reportLoad (s : State) (t : TesterId) (p : Program) (signature : Signature) : Reply :=
  match s.testers[t].staged with
  | none => refuse s .tooLate
  | some g =>
    if g.state ≠ .loading then refuse s .tooLate
    else if g.program ≠ p then refuse s .mismatch
    else
      accept ((s.updTester t (fun x => { x with staged := some (g.report signature) })).loadEnded t)
        (.stagedState (g.report signature).state.name)

/-- The checks and effect of PROGRAM_LOADED (R99). -/
def programLoaded (sender : StationId) (tester : Option Nat) (programId revision : Nat) (signature : Signature) (s : State) : Reply :=
  if !programOk programId revision then refuse s .badFormat
  else
    match s.formTester sender [.engineering] tester with
    | .error r => refuse s r
    | .ok t => s.reportLoad t ⟨programId, revision⟩ signature

/-- PROGRAM_LOADED (R99). -/
def execProgramLoaded (m : Msg) (tester : Option Nat) (programId revision : Nat) (signature : Signature) (s : State) : Out :=
  s.request .programLoaded m anyPayload (programLoaded m.sender tester programId revision signature)

/-- The reservation of the docked handler resolves to a program. -/
def State.reservationNeeds (s : State) (t : TesterId) (p : Program) : Option Slot :=
  match s.testers[t].docked with
  | none => none
  | some h =>
    match s.reservedOn h with
    | some (k, q) => if q = p then some k else none
    | none => none

/-- STAGE_ABORT on a tester (R101): the slot becomes EMPTY, a reservation waiting on the aborted program is cancelled, and the
load has ended. -/
def State.abortLoad (s : State) (t : TesterId) : Reply :=
  match s.testers[t].staged with
  | none => refuse s .wrongState
  | some g =>
    if g.state ≠ .loading then refuse s .wrongState
    else
      let s1 := s.updTester t (fun x => { x with staged := none })
      match s.reservationNeeds t g.program with
      | some k => accept ((s1.cancelReservation k false).loadEnded t) (.aborted true)
      | none => accept (s1.loadEnded t) (.aborted false)

/-- The checks and effect of STAGE_ABORT (R101). -/
def stageAbort (sender : StationId) (tester : Option Nat) (s : State) : Reply :=
  match s.formTester sender [.engineering, .floor] tester with
  | .error r => refuse s r
  | .ok t => s.abortLoad t

/-- STAGE_ABORT (R101). -/
def execStageAbort (m : Msg) (tester : Option Nat) (s : State) : Out := s.request .stageAbort m anyPayload (stageAbort m.sender tester)

/-! ### Deviations -/

/-- The step of a product's active route that a DEVIATION_SET names (R93). -/
def State.activeStep? (s : State) (i : ProductIx) (step : Nat) : Option RouteStep :=
  (s.products[i].active).bind (fun r => r.steps[step - 1]?)

/-- The checks and effect of DEVIATION_SET (R93). -/
def deviationSet (sender : StationId) (product step fromRevision substitute remaining : Nat) (s : State) : Reply :=
  match index? product 64 with
  | none => refuse s .badFormat
  | some i =>
    if !(within 1 4 step && within 1 255 fromRevision && within 1 255 substitute && fromRevision ≠ substitute &&
        within 1 255 remaining) then refuse s .badFormat
    else
      match s.activeStep? i step with
      | none => refuse s .noSuchEntry
      | some st =>
        if fromRevision ≠ st.program.revision then refuse s .mismatch
        else
          match lowestIndex (fun d : DevId => (s.deviations[d]).isNone) with
          | none => refuse s .tableFull
          | some d =>
            accept (s.updDeviation d (fun _ => some
              { product := i, step := step, fromRevision := fromRevision, substitute := substitute, remaining := remaining
                pending := 0, hits := 0, owner := sender, setTime := s.floorTime })) (.deviationEntry d)

/-- DEVIATION_SET (R93). -/
def execDeviationSet (m : Msg) (product step fromRevision substitute remaining : Nat) (s : State) : Out :=
  s.request .deviationSet m anyPayload (deviationSet m.sender product step fromRevision substitute remaining)

/-- The checks and effect of DEVIATION_CLEAR (R95). -/
def deviationClear (entry : Nat) (s : State) : Reply :=
  match indexOfNumber? entry 8 with
  | none => refuse s .badFormat
  | some d =>
    match s.deviations[d] with
    | none => refuse s .noSuchEntry
    | some e =>
      if 0 < e.pending then refuse s .inUse
      else accept (s.updDeviation d (fun _ => none)) (.deviationCleared e.remaining e.hits)

/-- DEVIATION_CLEAR (R95). -/
def execDeviationClear (m : Msg) (entry : Nat) (s : State) : Out := s.request .deviationClear m anyPayload (deviationClear entry)

/-- The checks and answer of DEVIATION_QUERY (R96). -/
def deviationQuery (entry : Option Nat) (s : State) : Reply :=
  match entry with
  | none => accept s (.deviationTable (s.deviations.toList.map (Option.map (fun e => (e.product, e.step, e.remaining, e.pending)))))
  | some n =>
    match indexOfNumber? n 8 with
    | none => refuse s .badFormat
    | some d =>
      match s.deviations[d] with
      | none => refuse s .noSuchEntry
      | some e => accept s (.deviation e)

/-- DEVIATION_QUERY (R96). -/
def execDeviationQuery (m : Msg) (entry : Option Nat) (s : State) : Out := s.request .deviationQuery m anyPayload (deviationQuery entry)

end Sys2Proof.Machine
end

