-- ==== Sys2Proof/Machine/TimeBase.lean ====
section
/-! DEFINITION. Machine/TimeBase.lean: the second tick, the expiry of each countdown it drives, floor time and the part
status (R46, R47, R79, R84, R98, R182 to R184).

The tick brings a countdown to 0; the expiry is an event of its own, taken by the block that owns the countdown, and other
events may be taken between the two (`notes/assumptions/3.md`). -/

namespace Sys2Proof.Machine

/-! ### SECOND_TICK -/

/-- The queue timing of a waiting lot one tick on (R46). -/
def Wait.tick (w : Wait) : Wait := { w with age := holdAt Config.queueAgeMax (w.age + 1), left := w.left.map (fun n => n - 1) }

/-- A lot one tick on: only QUEUED and RESERVED lots have queue timing (R46). -/
def Lot.tick (l : Lot) : Lot :=
  match l.state with
  | .queued w => { l with state := .queued w.tick }
  | .reserved w h r => { l with state := .reserved w.tick h r }
  | _ => l

/-- A cell is RUNNING. -/
def Cell.isRunning : Cell → Bool
  | .running _ _ => true
  | _ => false

/-- The stall countdown of a handler runs: it is RUNNING and the countdown has not expired (R84). -/
def Handler.stallRuns (x : Handler) : Bool := x.cell.isRunning && !x.stalled

/-- A handler one tick on: the soak countdown runs in SOAKING, the stall countdown in RUNNING (R79, R84). -/
def Handler.tick (x : Handler) : Handler :=
  { x with soakLeft := if x.thermal = .soaking then x.soakLeft - 1 else x.soakLeft
           stallLeft := if x.stallRuns then x.stallLeft - 1 else x.stallLeft }

/-- A staged slot one tick on: the deadline runs in LOADING (R98). -/
def Staged.tick (g : Staged) : Staged := if g.state = .loading then { g with deadline := g.deadline - 1 } else g

/-- The part one second tick on (R182). -/
def State.tick (s : State) : State :=
  { s with
    floorTime := s.floorTime + 1
    divider := 0
    lots := s.lots.map Lot.tick
    handlers := vecMap Handler.tick s.handlers
    testers := vecMap (fun t => { t with staged := t.staged.map Staged.tick }) s.testers }

/-- SECOND_TICK (R182). While RESETN is low no tick is produced. -/
def execSecondTick (s : State) : Out := s.event State.tick

/-! ### Expiries -/

/-- A lot's queue-time countdown has reached 0. -/
def Lot.queueTimeDue (l : Lot) : Bool :=
  match l.state.wait? with
  | some w => w.left = some 0
  | none => false

/-- A lot with its queue-time countdown absent. -/
def Lot.stopCountdown (l : Lot) : Lot :=
  match l.state with
  | .queued w => { l with state := .queued { w with left := none } }
  | .reserved w h r => { l with state := .reserved { w with left := none } h r }
  | _ => l

/-- The queue-time expiry of a lot (R47): the countdown becomes absent and QUEUE_TIME is placed. -/
def State.queueTimeExpiry (k : Slot) (s : State) : State :=
  match s.lot? k with
  | some l => if l.queueTimeDue then ((s.updLot k Lot.stopCountdown).placeHold k .queueTime none 0).1 else s
  | none => s

/-- QUEUE_TIME_EXPIRY (R47); a lot whose countdown has not reached 0 has no expiry. -/
def execQueueTimeExpiry (slot : Slot) (s : State) : Out := s.event (State.queueTimeExpiry slot)

/-- The soak expiry of a handler (R79): AT_TEMP, and the ready conditions are checked. -/
def State.soakExpiry (h : HandlerId) (s : State) : State :=
  if s.handlers[h].thermal = .soaking && s.handlers[h].soakLeft = 0 then
    (s.updHandler h (fun x => { x with thermal := .atTemp })).readyCheck h
  else s

/-- SOAK_EXPIRY (R79); a handler that does not soak, or whose countdown has not reached 0, has no expiry. -/
def execSoakExpiry (handler : HandlerId) (s : State) : Out := s.event (State.soakExpiry handler)

/-- The deadline expiry of a tester's load (R98): FAULT with cause TIMEOUT, and the load has ended. -/
def State.deadlineExpiry (t : TesterId) (s : State) : State :=
  match s.testers[t].staged with
  | some g =>
    if g.state = .loading && g.deadline = 0 then
      (s.updTester t (fun x => { x with staged := some { g with state := .fault .timeout } })).loadEnded t
    else s
  | none => s

/-- STAGING_DEADLINE_EXPIRY (R98); a slot that is not LOADING, or whose deadline has not reached 0, has no expiry. -/
def execStagingDeadlineExpiry (tester : TesterId) (s : State) : Out := s.event (State.deadlineExpiry tester)

/-- The stall expiry of a handler (R84): the stalled flag is set, and STALLED is marked for the bound station and every FLOOR
station. -/
def State.stallExpiry (h : HandlerId) (s : State) : State :=
  if s.handlers[h].stallRuns && s.handlers[h].stallLeft = 0 then
    ((s.updHandler h (fun x => { x with stalled := true })).markBound h .stalled (unitBit h)).markRoles [.floor] .stalled
      (unitBit h)
  else s

/-- STALL_EXPIRY (R84); a handler whose stall countdown does not run, or has not reached 0, has no expiry. -/
def execStallExpiry (handler : HandlerId) (s : State) : Out := s.event (State.stallExpiry handler)

/-! ### TIME_SET and PART_STATUS -/

/-- TIME_SET sets floor time and moves no countdown (R183). -/
def timeSet (time : Time) (s : State) : Reply := accept { s with floorTime := time } (.timeSet s.floorTime time)

/-- TIME_SET (R183). -/
def execTimeSet (m : Msg) (time : Time) (s : State) : Out :=
  s.request .timeSet m (readsAs readTimeSet m.fits time) (timeSet time)

/-- The occupancy of the tables (R184). -/
def State.occupancy (s : State) : Occupancy :=
  { lots := s.lots.length
    products := countIndexes (fun i : ProductIx => s.products[i].state ≠ .free)
    library := countIndexes (fun i : LibIx => (s.library[i]).isSome)
    deviations := countIndexes (fun i : DevId => (s.deviations[i]).isSome)
    releaseQueue := s.releaseQueue.length
    waitingList := s.waitingList.length
    stations := countIndexes (fun i : StationId => s.stations[i].enrolled)
    handlers := countIndexes (fun i : HandlerId => (s.handlers[i].config).isSome) }

/-- PART_STATUS reads the part as it stands (R184). -/
def partStatus (s : State) : Reply :=
  accept s (.partStatus Config.familyCode Config.revisionCode s.resetCause s.lineResets s.floorTime s.link.badFrames
    s.link.dropped s.link.linkFaults s.occupancy)

/-- PART_STATUS (R184). -/
def execPartStatus (m : Msg) (s : State) : Out := s.request .partStatus m (readsAs readEmpty m.fits ()) partStatus

end Sys2Proof.Machine
end

