-- ==== Sys2Proof/Machine/Yield.lean ====
section
/-! DEFINITION. Machine/Yield.lean: touchdowns, the four checks, site enable and the guard's figures (R107 to R130). -/

namespace Sys2Proof.Machine

/-! ### Sequence (R110, R111) -/

/-- The outcome of the sequence check of a touchdown index. -/
inductive Sequence where
  /-- accepted, with the number of touchdowns counted as skipped -/
  | accepted (skipped : Nat)
  | duplicate
  | outOfSequence
deriving DecidableEq, Repr

/-- The sequence check: the index less the last accepted one, modulo 65,536 (R110). -/
def sequenceCheck (last : Option (BitVec 16)) (index : BitVec 16) : Sequence :=
  match last with
  | none => .accepted 0
  | some l =>
    let d := (index - l).toNat
    if d = 0 then .duplicate else if d < Config.sequenceLimit then .accepted (d - 1) else .outOfSequence

/-- A run entry with skipped touchdowns added to its gap total, when it is the run in progress (R111). -/
def RunEntry.addGap (n : Nat) (r : RunEntry) : RunEntry :=
  if r.endTime.isNone then { r with gapTotal := holdAt Config.unitMax (r.gapTotal + n) } else r

/-- A step record with skipped touchdowns added to the gap total of its run in progress. -/
def StepRecord.addGap (n : Nat) (r : StepRecord) : StepRecord := { r with runs := r.runs.map (RunEntry.addGap n) }

/-! ### Counting (R112 to R114) -/

/-- The units of a touchdown in site order: each site whose result is a bin (R112). -/
def unitsOf (results : List Nat) : List (SiteIx × Nat) :=
  (List.finRange 8).filterMap (fun i : SiteIx =>
    match results[i.val]? with
    | some b => if b = 0 then none else some (i, b)
    | none => none)

/-- One unit counted into a step record (R112). -/
def StepRecord.countUnit (st : RouteStep) (bin : Nat) (r : StepRecord) : StepRecord :=
  if st.passes bin then { r with tested := r.tested + 1, good := r.good + 1 }
  else { r with tested := r.tested + 1, fails := r.fails.update (st.groupOfBin bin) (· + 1) }

/-- An outcome added to the newest end of a window ring that holds at most W outcomes (R113). -/
def pushOutcome (w : Nat) (ring : List Bool) (pass : Bool) : List Bool :=
  (ring ++ [pass]).drop (ring.length + 1 - w)

/-- One unit counted into the site counts of its site (R113). -/
def SiteCount.count (pass : Bool) (c : SiteCount) : SiteCount := { tested := c.tested + 1, good := c.good + pass.toNat }

/-- One unit counted into a guard's run: its outcome enters the ring, and its site's counts where the site is enabled (R113). -/
def GuardRun.countUnit (st : RouteStep) (enabled : BitVec 8) (u : SiteIx × Nat) (g : GuardRun) : GuardRun :=
  { g with
    ring := pushOutcome st.window g.ring (st.passes u.2)
    sites := if enabled.getLsbD u.1.val then g.sites.set u.1 (g.sites[u.1].count (st.passes u.2)) else g.sites }

/-- A touchdown's units do not fit the step: tested would pass its maximum (R114). -/
def saturates (r : StepRecord) (units : List (SiteIx × Nat)) : Bool := Config.unitMax < r.tested + units.length

/-- The step record after a touchdown's units (R112, R114). -/
def StepRecord.countUnits (st : RouteStep) (units : List (SiteIx × Nat)) (r : StepRecord) : StepRecord :=
  if saturates r units then { r with saturated := true }
  else units.foldl (fun r u => r.countUnit st u.2) r

/-- The guard's run after a touchdown's units are counted (R113). -/
def GuardRun.countUnits (st : RouteStep) (enabled : BitVec 8) (units : List (SiteIx × Nat)) (g : GuardRun) : GuardRun :=
  units.foldl (fun g u => g.countUnit st enabled u) g

/-! ### The checks (R115 to R126) -/

/-- The state after some checks of a touchdown, and the reasons placed so far in the order placed. -/
structure Checked where
  state : State
  placed : List HoldReason
deriving DecidableEq, Repr

/-- A reason handed to the Hold Unit by a check that tripped (R125). -/
def Checked.trip (c : Checked) (k : Slot) (r : HoldReason) (groups : BitVec 4) : Checked :=
  let a := c.state.placeHold k r none groups
  { state := a.1, placed := if a.2 then c.placed ++ [r] else c.placed }

/-- A reason handed to the Hold Unit when a condition holds. -/
def Checked.tripIf (b : Bool) (k : Slot) (r : HoldReason) (groups : BitVec 4) (c : Checked) : Checked :=
  if b then c.trip k r groups else c

/-- The cumulative check rearms a disarmed step that has recovered (R118). -/
def Checked.rearmIf (b : Bool) (k : Slot) (c : Checked) : Checked :=
  if b then { c with state := c.state.updLot k (fun l => { l with cur := { l.cur with armed := true } }) } else c

/-- COUNT_EXCESS, then the cumulative, window and bin-group checks, in order, for a step record and a ring as they stand after
the touchdown (R115, R116, R118, R121, R122). -/
def holdChecks (st : RouteStep) (k : Slot) (r : StepRecord) (ring : List Bool) (s : State) : Checked :=
  ((((Checked.mk s []).tripIf (countExceeds r) k .countExcess 0).tripIf (yieldLowTrips st r) k .yieldLow 0
    |>.rearmIf (cumulativeRearms st r) k).tripIf (windowLowTrips st ring) k .windowLow 0).tripIf (trippedGroups st r ≠ 0) k
      .binSpike (trippedGroups st r)

/-- A site is removed from a handler's enable set, and SITE_DISABLED is marked for its bound station (R124). -/
def State.disableSite (s : State) (h : HandlerId) (i : SiteIx) : State :=
  (s.updHandler h (fun x => { x with config := x.config.map (fun c =>
    { c with sitesEnabled := c.sitesEnabled &&& ~~~(1 <<< i.val : BitVec 8) }) })).markBound h .siteDisabled (unitBit h)

/-- The site disparity check of a handler (R123, R124). -/
def State.siteCheck (s : State) (st : RouteStep) (h : HandlerId) (sites : Vector SiteCount 8) : State × Option SiteIx :=
  match disparitySite? st s.handlers[h].sites sites with
  | some i => (s.disableSite h i, some i)
  | none => (s, none)

/-! ### The work of an accepted touchdown (R116) -/

/-- The stall countdown restarts at the stall time and the stalled flag is cleared, for a RUNNING handler (R84, R116). -/
def Handler.restartStall (x : Handler) : Handler :=
  if x.cell.name = .running then { x with stallLeft := x.stallTime, stalled := false } else x

/-- The lookahead conditions of a handler (R50). -/
def State.lookaheadDue (s : State) (h : HandlerId) : Bool :=
  match s.handlers[h].cell, s.handlers[h].config with
  | .running k none, some c =>
    match s.lot? k with
    | some l => c.lookahead ≠ 0 && (l.cur.quantityIn : Int) - (l.cur.tested : Int) ≤ (c.lookahead : Int)
    | none => false
  | _, _ => false

/-- The lookahead selection of a handler, with the lot it reserved (R50). -/
def State.lookahead (s : State) (h : HandlerId) : State × Option Text :=
  if s.lookaheadDue h then
    match s.select h with
    | some (l, _) => (s.reserve h l, some l.id)
    | none => (s, none)
  else (s, none)

/-- The counts of an accepted touchdown: index and gap recorded, then the units counted or refused whole (R116, steps 1 and 2). -/
def State.countTouchdown (s : State) (h : HandlerId) (l : Lot) (g : GuardRun) (index : BitVec 16) (skipped : Nat)
    (units : List (SiteIx × Nat)) : State :=
  let st := s.stepOf l
  let g1 := { g with lastIndex := some index }
  let g2 := if saturates l.cur units then g1 else g1.countUnits st s.handlers[h].sites units
  { (s.updLot l.slot (fun x => { x with cur := (x.cur.addGap skipped).countUnits st units })) with
    guards := s.guards.set h (some g2) }

/-- The checks of an accepted touchdown that counted at least one unit: the hold checks, then the site disparity check (R116,
step 3). -/
def State.checkTouchdown (s : State) (h : HandlerId) (k : Slot) : Checked × Option SiteIx :=
  match s.lot? k, s.guards[h] with
  | some l, some g =>
    let c := holdChecks (s.stepOf l) k l.cur g.ring s
    let d := c.state.siteCheck (s.stepOf l) h g.sites
    ({ c with state := d.1 }, d.2)
  | _, _ => (⟨s, []⟩, none)

/-- An accepted touchdown (R116). -/
def State.acceptTouchdown (s : State) (h : HandlerId) (l : Lot) (g : GuardRun) (index : BitVec 16) (skipped : Nat)
    (results : List Nat) : Reply :=
  let units := unitsOf results
  let refused := saturates l.cur units
  let counted := if refused then 0 else units.length
  let s1 := s.countTouchdown h l g index skipped units
  let c := if counted = 0 then (Checked.mk s1 [], none) else s1.checkTouchdown h l.slot
  let s2 := c.1.state.updHandler h Handler.restartStall
  let a := s2.lookahead h
  accept a.1 (.touchdown counted refused (index + 1) a.1.handlers[h].cell.name c.2 c.1.placed a.2)

/-- A touchdown of the current lot of a handler: the number of results, then the sequence check (R109, R110). -/
def State.touchdownOn (s : State) (h : HandlerId) (l : Lot) (index : BitVec 16) (results : List Nat) : Reply :=
  if s.handlers[h].config.all (fun c => c.siteCount ≠ results.length) then refuse s .badFormat
  else
    match s.guards[h] with
    | none => refuse s .wrongState
    | some g =>
      match sequenceCheck g.lastIndex index with
      | .duplicate => refuse s .duplicate
      | .outOfSequence => refuse s .outOfSequence
      | .accepted n => s.acceptTouchdown h l g index n results

/-- The checks and effect of TOUCHDOWN (R109, R116). -/
def touchdown (sender : StationId) (lot : Text) (index : BitVec 16) (results : List Nat) (s : State) : Reply :=
  if !(lotIdOk lot && within 1 8 results.length && results.all (fun b => b ≤ 16)) then refuse s .badFormat
  else
    match s.currentOf sender lot with
    | .error r => refuse s r
    | .ok (h, l) => s.touchdownOn h l index results

/-- TOUCHDOWN (R109, R116). -/
def execTouchdown (m : Msg) (lot : Text) (index : BitVec 16) (results : List Nat) (s : State) : Out :=
  s.request .touchdown m (readsAs readTouchdown m.fits (lot, index, results)) (touchdown m.sender lot index results)

/-! ### SITE_ENABLE -/

/-- A guard's run with one site's counts at 0 (R129). -/
def GuardRun.clearSite (i : SiteIx) (g : GuardRun) : GuardRun := { g with sites := g.sites.set i { tested := 0, good := 0 } }

/-- A site is added to a configured handler's enable set, and its run counts become 0 (R129). -/
def State.enableSite (s : State) (h : HandlerId) (c : HandlerConfig) (i : SiteIx) : Reply :=
  let c1 := { c with sitesEnabled := c.sitesEnabled ||| (1 <<< i.val : BitVec 8) }
  accept { (s.updHandler h (fun x => { x with config := some c1 })) with
      guards := s.guards.set h ((s.guards[h]).map (GuardRun.clearSite i)) }
    (.siteEnabled c1.sitesEnabled (c.sitesEnabled.getLsbD i.val))

/-- The checks and effect of SITE_ENABLE (R129). -/
def siteEnable (sender : StationId) (handler site : Nat) (s : State) : Reply :=
  match indexOfNumber? handler 16, indexOfNumber? site 8 with
  | some h, some i =>
    if !s.mayServe sender [.engineering] h then refuse s .notPermitted
    else if s.lockedAgainst sender h then refuse s .locked
    else
      match s.handlers[h].config with
      | none => refuse s .wrongState
      | some c => if c.siteCount < site then refuse s .badFormat else s.enableSite h c i
  | _, _ => refuse s .badFormat

/-- SITE_ENABLE (R129). -/
def execSiteEnable (m : Msg) (handler site : Nat) (s : State) : Out :=
  s.request .siteEnable m anyPayload (siteEnable m.sender handler site)

/-! ### YIELD_QUERY -/

/-- The LOT answer of a handler's guard (R130). -/
def State.yieldLot (s : State) (h : HandlerId) (g : GuardRun) (l : Lot) : YieldLot :=
  let st := s.stepOf l
  let r := l.cur
  { lot := g.lot, run := g.run, cell := s.handlers[h].cell.name, lastIndex := g.lastIndex, nextIndex := g.lastIndex.map (· + 1)
    gapTotal := (l.runInProgress.map (·.gapTotal)).getD 0
    tested := r.tested, good := r.good, fails := r.fails, saturated := r.saturated, armed := r.armed
    cumulative := if r.tested = 0 then none else some (r.cumulative, cumulativeDue st r)
    ringSize := g.ring.length, ringFails := ringFails g.ring
    windowYield := if g.ring.length = st.window then some (windowYield st g.ring) else none
    fractions := PerGroup.ofFn (fun grp =>
      if st.groupLimit.get grp < 1000 && r.tested ≠ 0 then some (r.fraction grp) else none) }

/-- One site of a SITES answer (R130).  DESIGN CHOICE (assumption 21, unsafe): the gap is answered by the sample conditions of R123
alone, also where the step's D is 0 and the disparity check is not evaluated. -/
def yieldSite (st : RouteStep) (enabled : BitVec 8) (sites : Vector SiteCount 8) (i : SiteIx) : YieldSite :=
  { site := i, enabled := enabled.getLsbD i.val, tested := sites[i].tested, good := sites[i].good
    yield := if sites[i].tested = 0 then none else some sites[i].yield
    gap := siteGap? st.minSample enabled sites i }

/-- The SITES answer of a handler's guard, from the first site given (R130). -/
def State.yieldSites (s : State) (c : HandlerConfig) (g : GuardRun) (l : Lot) (first : Nat) : Body :=
  let st := s.stepOf l
  let n := (sitesOf c.sitesEnabled).length
  .yieldSites c.siteCount c.sitesEnabled n (siteSample st.minSample n)
    (((List.finRange 8).filter (fun i => first - 1 ≤ i.val && i.val < first + 3 && i.val < c.siteCount)).map
      (yieldSite st c.sitesEnabled g.sites))

/-- The selector of YIELD_QUERY is in range: SITES carries a first site, 1 or 5 (R130). -/
def yieldPartOk : YieldPart → Bool
  | .lot => true
  | .sites first => first = 1 || first = 5
  | .other => false

/-- The answer for a handler whose guard holds a run (R130). -/
def State.yieldAnswer (s : State) (h : HandlerId) (g : GuardRun) (l : Lot) : YieldPart → Reply
  | .lot => accept s (.yieldLot (s.yieldLot h g l))
  | .sites first =>
    match s.handlers[h].config with
    | none => refuse s .empty
    | some c => if first = 5 && c.siteCount < 5 then refuse s .noSuchEntry else accept s (s.yieldSites c g l first)
  | .other => refuse s .badFormat

/-- The checks and answer of YIELD_QUERY (R130). -/
def yieldQuery (sender : StationId) (handler : Option Nat) (part : YieldPart) (s : State) : Reply :=
  match s.queriedHandler sender handler with
  | none => refuse s .badFormat
  | some h =>
    if !yieldPartOk part then refuse s .badFormat
    else
      match s.guards[h] with
      | none => refuse s .empty
      | some g =>
        match s.lot? g.lot with
        | none => refuse s .empty
        | some l => s.yieldAnswer h g l part

/-- YIELD_QUERY (R130). -/
def execYieldQuery (m : Msg) (handler : Option Nat) (part : YieldPart) (s : State) : Out :=
  s.request .yieldQuery m anyPayload (yieldQuery m.sender handler part)

end Sys2Proof.Machine
end

