-- ==== Sys2Proof/Machine/Dispatch.lean ====
section
/-! DEFINITION. Machine/Dispatch.lean: the meaning of each command, one arm per constructor. -/

namespace Sys2Proof.Machine

def exec (i : Instr) (s : State) : Host.Outcome State Fault Refusal :=
  match i with
  | .powerOnReset rate1 rate0 => Sys2Proof.Machine.execPowerOnReset rate1 rate0 s
  | .lineReset => Sys2Proof.Machine.execLineReset s
  | .resetRelease rate1 rate0 => Sys2Proof.Machine.execResetRelease rate1 rate0 s
  | .frameReceive levels => Sys2Proof.Machine.execFrameReceive levels s
  | .linkRefusal sender kind tag => Sys2Proof.Machine.execLinkRefusal sender kind tag s
  | .responseSend outcome => Sys2Proof.Machine.execResponseSend outcome s
  | .secondTick => Sys2Proof.Machine.execSecondTick s
  | .queueTimeExpiry slot => Sys2Proof.Machine.execQueueTimeExpiry slot s
  | .soakExpiry handler => Sys2Proof.Machine.execSoakExpiry handler s
  | .stagingDeadlineExpiry tester => Sys2Proof.Machine.execStagingDeadlineExpiry tester s
  | .stallExpiry handler => Sys2Proof.Machine.execStallExpiry handler s
  | .stationEnroll m station roles handler => Sys2Proof.Machine.execStationEnroll m station roles handler s
  | .stationRemove m station => Sys2Proof.Machine.execStationRemove m station s
  | .attentionRead m => Sys2Proof.Machine.execAttentionRead m s
  | .attentionMask m kinds => Sys2Proof.Machine.execAttentionMask m kinds s
  | .timeSet m time => Sys2Proof.Machine.execTimeSet m time s
  | .partStatus m => Sys2Proof.Machine.execPartStatus m s
  | .lotRegister m lot product quantity priority => Sys2Proof.Machine.execLotRegister m lot product quantity priority s
  | .lotQuery m lot part => Sys2Proof.Machine.execLotQuery m lot part s
  | .lotScan m after => Sys2Proof.Machine.execLotScan m after s
  | .lotPurge m lot => Sys2Proof.Machine.execLotPurge m lot s
  | .lotEnd m lot => Sys2Proof.Machine.execLotEnd m lot s
  | .productDefine m index code count number step => Sys2Proof.Machine.execProductDefine m index code count number step s
  | .productRemove m name => Sys2Proof.Machine.execProductRemove m name s
  | .productQuery m name part => Sys2Proof.Machine.execProductQuery m name part s
  | .programDefine m programId revision signature estimate => Sys2Proof.Machine.execProgramDefine m programId revision signature estimate s
  | .programWithdraw m programId revision => Sys2Proof.Machine.execProgramWithdraw m programId revision s
  | .programRemove m programId revision => Sys2Proof.Machine.execProgramRemove m programId revision s
  | .programQuery m key => Sys2Proof.Machine.execProgramQuery m key s
  | .callWork m => Sys2Proof.Machine.execCallWork m s
  | .lotBegin m lot => Sys2Proof.Machine.execLotBegin m lot s
  | .lotPriority m lot priority => Sys2Proof.Machine.execLotPriority m lot priority s
  | .queueQuery m queue start => Sys2Proof.Machine.execQueueQuery m queue start s
  | .dispatchConfig m settings => Sys2Proof.Machine.execDispatchConfig m settings s
  | .handlerConfig m handler capability sites ramp stall lookahead => Sys2Proof.Machine.execHandlerConfig m handler capability sites ramp stall lookahead s
  | .handlerOnline m => Sys2Proof.Machine.execHandlerOnline m s
  | .handlerOffline m handler => Sys2Proof.Machine.execHandlerOffline m handler s
  | .dock m handler tester => Sys2Proof.Machine.execDock m handler tester s
  | .undock m handler => Sys2Proof.Machine.execUndock m handler s
  | .kitInstalled m kit => Sys2Proof.Machine.execKitInstalled m kit s
  | .tempReached m setpoint => Sys2Proof.Machine.execTempReached m setpoint s
  | .tempLost m => Sys2Proof.Machine.execTempLost m s
  | .handlerLock m handler => Sys2Proof.Machine.execHandlerLock m handler s
  | .handlerUnlock m handler => Sys2Proof.Machine.execHandlerUnlock m handler s
  | .cellStatus m handler part => Sys2Proof.Machine.execCellStatus m handler part s
  | .testerConfigEnable m tester => Sys2Proof.Machine.execTesterConfigEnable m tester s
  | .testerConfigDisable m tester => Sys2Proof.Machine.execTesterConfigDisable m tester s
  | .testerConfigClearActive m tester => Sys2Proof.Machine.execTesterConfigClearActive m tester s
  | .testerQuery m tester => Sys2Proof.Machine.execTesterQuery m tester s
  | .stageProgram m tester programId revision => Sys2Proof.Machine.execStageProgram m tester programId revision s
  | .programLoaded m tester programId revision signature => Sys2Proof.Machine.execProgramLoaded m tester programId revision signature s
  | .stageAbort m tester => Sys2Proof.Machine.execStageAbort m tester s
  | .deviationSet m product step fromRevision substitute remaining => Sys2Proof.Machine.execDeviationSet m product step fromRevision substitute remaining s
  | .deviationClear m entry => Sys2Proof.Machine.execDeviationClear m entry s
  | .deviationQuery m entry => Sys2Proof.Machine.execDeviationQuery m entry s
  | .touchdown m lot index results => Sys2Proof.Machine.execTouchdown m lot index results s
  | .siteEnable m handler site => Sys2Proof.Machine.execSiteEnable m handler site s
  | .yieldQuery m handler part => Sys2Proof.Machine.execYieldQuery m handler part s
  | .lotHold m lot => Sys2Proof.Machine.execLotHold m lot s
  | .lotDisposeContinue m lot reason => Sys2Proof.Machine.execLotDisposeContinue m lot reason s
  | .lotDisposeRescreen m lot reason => Sys2Proof.Machine.execLotDisposeRescreen m lot reason s
  | .lotDisposeScrap m lot reason => Sys2Proof.Machine.execLotDisposeScrap m lot reason s
  | .drained m lot => Sys2Proof.Machine.execDrained m lot s
  | .lotEndorse m lot role => Sys2Proof.Machine.execLotEndorse m lot role s
  | .endorseWithdraw m lot => Sys2Proof.Machine.execEndorseWithdraw m lot s
  | .shipCollect m lot => Sys2Proof.Machine.execShipCollect m lot s
  | .releaseQuery m part => Sys2Proof.Machine.execReleaseQuery m part s

end Sys2Proof.Machine
end

