-- ==== Sys2Proof/WellFormed.lean ====
section
/-! DEFINITION. WellFormed.lean: which commands a floor can send.  A command is well formed when every operand fits the place a
frame or an event has for it: one byte, two bytes, a lot id within a payload, a product code of 8 characters, levels that begin
with a start bit (R168, R175).  A value outside its range but within its place is well formed: it is answered BAD_FORMAT. -/

namespace Sys2Proof

/-- A number sent in one byte. -/
def fitsByte (n : Nat) : Bool := n < 256

/-- A number sent in two bytes. -/
def fitsTwo (n : Nat) : Bool := n < 65536

/-- A one-byte kit id, handler number or tester number that may be absent: 0xFF stands for absent (R175). -/
def fitsOptional (o : Option Nat) : Bool := o.all (fun n => n < 255)

/-- A setpoint sent as one byte that holds it plus 64, 0 standing for absent (R175). -/
def fitsSetpoint (t : Int) : Bool := (-63 : Int) ≤ t && t ≤ 191

/-- A lot id with its length byte within a payload (R168, R175). -/
def fitsLotId (t : Text) : Bool := t.length < Config.payloadMax

/-- A product code: 8 characters with no length byte (R175). -/
def fitsCode (t : Text) : Bool := t.length = 8

/-- The step fields of a PRODUCT_DEFINE frame each fit their place (R25). -/
def StepGiven.fits (g : StepGiven) : Bool :=
  fitsSetpoint g.setpoint && fitsTwo g.soak && fitsByte g.programId && fitsByte g.revision && fitsByte g.kit &&
  g.groupOf.length = 16 && g.groupOf.all fitsByte && fitsTwo g.yieldLow && fitsTwo g.hysteresis && fitsTwo g.minSample &&
  fitsTwo g.window && fitsTwo g.windowLow && fitsTwo g.limitA && fitsTwo g.limitB && fitsTwo g.limitC && fitsTwo g.limitD &&
  fitsTwo g.disparity && fitsTwo g.queueLimit && fitsByte g.tolerance

/-- A product named by index or by code fits its place. -/
def ProductName.fits : ProductName → Bool
  | .index n => fitsByte n
  | .code t => fitsCode t

/-- The three dispatch settings fit their places: the aging gain one byte, the kit term and the age ceiling two (R66). -/
def SettingsGiven.fits (g : SettingsGiven) : Bool := fitsTwo g.kitTerm && fitsByte g.agingGain && fitsTwo g.ageCeiling

/-- The argument of LOT_QUERY fits its place. -/
def LotPart.fits : LotPart → Bool
  | .header => true
  | .step n run => fitsByte n && fitsByte run
  | .holds start => fitsByte start
  | .endorsements => true
  | .other => true

/-- The argument of PRODUCT_QUERY fits its place. -/
def ProductPart.fits : ProductPart → Bool
  | .header => true
  | .step n => fitsByte n
  | .other => true

/-- The form of PROGRAM_QUERY fits its place. -/
def LibraryKey.fits : LibraryKey → Bool
  | .revision p r => fitsByte p && fitsByte r
  | .scanFirst => true
  | .scanAfter n => fitsByte n

/-- The argument of YIELD_QUERY fits its place. -/
def YieldPart.fits : YieldPart → Bool
  | .lot => true
  | .sites first => fitsByte first
  | .other => true

/-- The argument of RELEASE_QUERY fits its place.  DESIGN CHOICE (assumption 19, safe): R164 gives a starting position or place no
width and no upper bound; one byte holds it here. -/
def ReleasePart.fits : ReleasePart → Bool
  | .queue start => fitsByte start
  | .recordOf lot => fitsLotId lot
  | .recordAt position => fitsByte position
  | .waiting start => fitsByte start
  | .other => true

/-- A command that a floor can send.  DESIGN CHOICE (assumption 19, safe): R65 gives QUEUE_QUERY's starting position no width and no
upper bound; one byte holds it here. -/
def Instr.wellFormed : Instr → Bool
  | .powerOnReset _ _ => true
  | .lineReset => true
  | .resetRelease _ _ => true
  | .frameReceive levels => levels.head? = some false
  | .linkRefusal _ _ _ => true
  | .responseSend _ => true
  | .secondTick => true
  | .queueTimeExpiry _ => true
  | .soakExpiry _ => true
  | .stagingDeadlineExpiry _ => true
  | .stallExpiry _ => true
  | .stationEnroll _ station _ handler => fitsByte station && fitsOptional handler
  | .stationRemove _ station => fitsByte station
  | .attentionRead _ => true
  | .attentionMask _ _ => true
  | .timeSet _ _ => true
  | .partStatus _ => true
  | .lotRegister _ lot product quantity priority =>
    fitsLotId lot && fitsCode product && quantity < 16777216 && fitsByte priority
  | .lotQuery _ lot part => fitsLotId lot && part.fits
  | .lotScan _ after => after.all fitsByte
  | .lotPurge _ lot => fitsLotId lot
  | .lotEnd _ lot => fitsLotId lot
  | .productDefine _ index code count number step =>
    fitsByte index && fitsCode code && fitsByte count && fitsByte number && step.fits
  | .productRemove _ name => name.fits
  | .productQuery _ name part => name.fits && part.fits
  | .programDefine _ programId revision _ estimate => fitsByte programId && fitsByte revision && fitsTwo estimate
  | .programWithdraw _ programId revision => fitsByte programId && fitsByte revision
  | .programRemove _ programId revision => fitsByte programId && fitsByte revision
  | .programQuery _ key => key.fits
  | .callWork _ => true
  | .lotBegin _ lot => fitsLotId lot
  | .lotPriority _ lot priority => fitsLotId lot && fitsByte priority
  | .queueQuery _ _ start => fitsByte start
  | .dispatchConfig _ settings => settings.all SettingsGiven.fits
  | .handlerConfig _ handler _ sites ramp stall lookahead =>
    fitsByte handler && fitsByte sites && fitsByte ramp && fitsTwo stall && fitsTwo lookahead
  | .handlerOnline _ => true
  | .handlerOffline _ handler => fitsOptional handler
  | .dock _ handler tester => fitsByte handler && fitsByte tester
  | .undock _ handler => fitsByte handler
  | .kitInstalled _ kit => fitsOptional kit
  | .tempReached _ setpoint => fitsSetpoint setpoint
  | .tempLost _ => true
  | .handlerLock _ handler => fitsByte handler
  | .handlerUnlock _ handler => fitsByte handler
  | .cellStatus _ handler _ => fitsOptional handler
  | .testerConfigEnable _ tester => fitsByte tester
  | .testerConfigDisable _ tester => fitsByte tester
  | .testerConfigClearActive _ tester => fitsByte tester
  | .testerQuery _ tester => fitsByte tester
  | .stageProgram _ tester programId revision => fitsByte tester && fitsByte programId && fitsByte revision
  | .programLoaded _ tester programId revision _ => fitsOptional tester && fitsByte programId && fitsByte revision
  | .stageAbort _ tester => fitsOptional tester
  | .deviationSet _ product step fromRevision substitute remaining =>
    fitsByte product && fitsByte step && fitsByte fromRevision && fitsByte substitute && fitsByte remaining
  | .deviationClear _ entry => fitsByte entry
  | .deviationQuery _ entry => entry.all fitsByte
  | .touchdown _ lot _ results => fitsLotId lot && results.length < Config.payloadMax && results.all fitsByte
  | .siteEnable _ handler site => fitsByte handler && fitsByte site
  | .yieldQuery _ handler part => fitsOptional handler && part.fits
  | .lotHold _ lot => fitsLotId lot
  | .lotDisposeContinue _ lot reason => fitsLotId lot && fitsByte reason
  | .lotDisposeRescreen _ lot reason => fitsLotId lot && fitsByte reason
  | .lotDisposeScrap _ lot reason => fitsLotId lot && fitsByte reason
  | .drained _ lot => fitsLotId lot
  | .lotEndorse _ lot role => fitsLotId lot && fitsByte role
  | .endorseWithdraw _ lot => fitsLotId lot
  | .shipCollect _ lot => fitsLotId lot
  | .releaseQuery _ part => part.fits

/-- The lot ids and product codes a command carries. -/
def Instr.texts : Instr → List Text
  | .powerOnReset _ _ => []
  | .lineReset => []
  | .resetRelease _ _ => []
  | .frameReceive _ => []
  | .linkRefusal _ _ _ => []
  | .responseSend _ => []
  | .secondTick => []
  | .queueTimeExpiry _ => []
  | .soakExpiry _ => []
  | .stagingDeadlineExpiry _ => []
  | .stallExpiry _ => []
  | .stationEnroll _ _ _ _ => []
  | .stationRemove _ _ => []
  | .attentionRead _ => []
  | .attentionMask _ _ => []
  | .timeSet _ _ => []
  | .partStatus _ => []
  | .lotRegister _ lot product _ _ => [lot, product]
  | .lotQuery _ lot _ => [lot]
  | .lotScan _ _ => []
  | .lotPurge _ lot => [lot]
  | .lotEnd _ lot => [lot]
  | .productDefine _ _ code _ _ _ => [code]
  | .productRemove _ name => match name with
    | .index _ => []
    | .code t => [t]
  | .productQuery _ name _ => match name with
    | .index _ => []
    | .code t => [t]
  | .programDefine _ _ _ _ _ => []
  | .programWithdraw _ _ _ => []
  | .programRemove _ _ _ => []
  | .programQuery _ _ => []
  | .callWork _ => []
  | .lotBegin _ lot => [lot]
  | .lotPriority _ lot _ => [lot]
  | .queueQuery _ _ _ => []
  | .dispatchConfig _ _ => []
  | .handlerConfig _ _ _ _ _ _ _ => []
  | .handlerOnline _ => []
  | .handlerOffline _ _ => []
  | .dock _ _ _ => []
  | .undock _ _ => []
  | .kitInstalled _ _ => []
  | .tempReached _ _ => []
  | .tempLost _ => []
  | .handlerLock _ _ => []
  | .handlerUnlock _ _ => []
  | .cellStatus _ _ _ => []
  | .testerConfigEnable _ _ => []
  | .testerConfigDisable _ _ => []
  | .testerConfigClearActive _ _ => []
  | .testerQuery _ _ => []
  | .stageProgram _ _ _ _ => []
  | .programLoaded _ _ _ _ _ => []
  | .stageAbort _ _ => []
  | .deviationSet _ _ _ _ _ _ => []
  | .deviationClear _ _ => []
  | .deviationQuery _ _ => []
  | .touchdown _ lot _ _ => [lot]
  | .siteEnable _ _ _ => []
  | .yieldQuery _ _ _ => []
  | .lotHold _ lot => [lot]
  | .lotDisposeContinue _ lot _ => [lot]
  | .lotDisposeRescreen _ lot _ => [lot]
  | .lotDisposeScrap _ lot _ => [lot]
  | .drained _ lot => [lot]
  | .lotEndorse _ lot _ => [lot]
  | .endorseWithdraw _ lot => [lot]
  | .shipCollect _ lot => [lot]
  | .releaseQuery _ part => match part with
    | .recordOf lot => [lot]
    | .queue _ => []
    | .recordAt _ => []
    | .waiting _ => []
    | .other => []

end Sys2Proof
end

