-- ==== Sys2Proof/Safety.lean ====
section
/-! DEFINITION. Safety.lean: the words in which claims about the part are made: when a request is taken by its owning block, the
state it leaves with its answer, and the conditions that every event keeps. -/

namespace Sys2Proof.Machine

/-! ### A request that is taken, and its answer -/

/-- The roles of a sender pass the role check that the Link Interface makes (R172). -/
def RoleCheck.admits (c : RoleCheck) (rs : RoleSet) : Bool :=
  match c with
  | .any => true
  | .block => true
  | .roles xs => rs.hasAny xs

/-- The frame of a request can be delivered: the receive buffer is empty, or its head is that frame. -/
def Link.offers (k : Link) (m : Msg) (kind : Kind) (reads : List Byte → Bool) : Bool :=
  match k.rxBuffer with
  | [] => true
  | f :: _ => f.sender = m.sender && f.kind = kind.code && f.tag = m.tag && reads f.payload

/-- The frame of a request is delivered to the checks of the Link Interface (R172). -/
def State.delivers (s : State) (m : Msg) (kind : Kind) (reads : List Byte → Bool) : Bool :=
  !s.inReset && s.link.responses.length < 4 && s.link.offers m kind reads

/-- A request comes to its owning block: it is delivered, its sender is enrolled, the link role check passes, and its payload fits
its layout (R172, R175). -/
def State.takes (s : State) (m : Msg) (kind : Kind) (reads : List Byte → Bool) : Bool :=
  s.delivers m kind reads && s.stations[m.sender].enrolled && kind.roleCheck.admits (s.rolesOf m.sender) && m.fits

/-- The state with the head of the receive buffer gone: the request has been taken (R172). -/
def State.taken (s : State) : State := { s with link := { s.link with rxBuffer := s.link.rxBuffer.tail } }

/-- The state with an answer appended to the response queue: the request's sender, kind and tag, and the attention bit of the
moment (R172, R173). -/
def State.answered (s : State) (m : Msg) (kind : Kind) (result : Result) (body : Body) : State :=
  { s with
    link := { s.link with
      responses := s.link.responses ++
        [{ receiver := m.sender, kind := kind.code, tag := m.tag, result := result
           attention := !s.stations[m.sender].attention.isEmpty, body := body }] } }

/-- The state with the record of one lot replaced; every other lot is as before. -/
def State.putLot (s : State) (l : Lot) : State := { s with lots := s.lots.map (fun x => if x.slot = l.slot then l else x) }

/-- The queue fields of a lot that enters the queue of a step fresh: the next stamp, age 0, and a countdown of Q × 60 seconds
unless Q is 0 (R42, R43). -/
def State.freshWait (s : State) (st : RouteStep) : Wait :=
  { stamp := min 4294967295 (s.stampCounter + 1), age := 0
    left := if st.queueLimit = 0 then none else some (st.queueLimit * 60) }

/-- The state with a lot, whose record is given, just entered in the queue of its current step (R42, R43). -/
def State.putQueued (s : State) (l : Lot) : State :=
  { s.putLot { l with state := .queued (s.freshWait (s.stepOf l)) } with stampCounter := min 4294967295 (s.stampCounter + 1) }

/-- The state with HOLD_PLACED marked for QUALITY and FLOOR stations (R133). -/
def State.holdMarked (s : State) : State := s.markRoles [.quality, .floor] .holdPlaced 0

end Sys2Proof.Machine

namespace Sys2Proof

/-- The kind and the frame of a request command; none for the eleven commands that are not requests. -/
def Instr.request? : Instr → Option (Machine.Kind × Msg)
  | .powerOnReset _ _ => none
  | .lineReset => none
  | .resetRelease _ _ => none
  | .frameReceive _ => none
  | .linkRefusal _ _ _ => none
  | .responseSend _ => none
  | .secondTick => none
  | .queueTimeExpiry _ => none
  | .soakExpiry _ => none
  | .stagingDeadlineExpiry _ => none
  | .stallExpiry _ => none
  | .stationEnroll m _ _ _ => some (.stationEnroll, m)
  | .stationRemove m _ => some (.stationRemove, m)
  | .attentionRead m => some (.attentionRead, m)
  | .attentionMask m _ => some (.attentionMask, m)
  | .timeSet m _ => some (.timeSet, m)
  | .partStatus m => some (.partStatus, m)
  | .lotRegister m _ _ _ _ => some (.lotRegister, m)
  | .lotQuery m _ _ => some (.lotQuery, m)
  | .lotScan m _ => some (.lotScan, m)
  | .lotPurge m _ => some (.lotPurge, m)
  | .lotEnd m _ => some (.lotEnd, m)
  | .productDefine m _ _ _ _ _ => some (.productDefine, m)
  | .productRemove m _ => some (.productRemove, m)
  | .productQuery m _ _ => some (.productQuery, m)
  | .programDefine m _ _ _ _ => some (.programDefine, m)
  | .programWithdraw m _ _ => some (.programWithdraw, m)
  | .programRemove m _ _ => some (.programRemove, m)
  | .programQuery m _ => some (.programQuery, m)
  | .callWork m => some (.callWork, m)
  | .lotBegin m _ => some (.lotBegin, m)
  | .lotPriority m _ _ => some (.lotPriority, m)
  | .queueQuery m _ _ => some (.queueQuery, m)
  | .dispatchConfig m _ => some (.dispatchConfig, m)
  | .handlerConfig m _ _ _ _ _ _ => some (.handlerConfig, m)
  | .handlerOnline m => some (.handlerOnline, m)
  | .handlerOffline m _ => some (.handlerOffline, m)
  | .dock m _ _ => some (.dock, m)
  | .undock m _ => some (.undock, m)
  | .kitInstalled m _ => some (.kitInstalled, m)
  | .tempReached m _ => some (.tempReached, m)
  | .tempLost m => some (.tempLost, m)
  | .handlerLock m _ => some (.handlerLock, m)
  | .handlerUnlock m _ => some (.handlerUnlock, m)
  | .cellStatus m _ _ => some (.cellStatus, m)
  | .testerConfigEnable m _ => some (.testerConfig, m)
  | .testerConfigDisable m _ => some (.testerConfig, m)
  | .testerConfigClearActive m _ => some (.testerConfig, m)
  | .testerQuery m _ => some (.testerQuery, m)
  | .stageProgram m _ _ _ => some (.stageProgram, m)
  | .programLoaded m _ _ _ _ => some (.programLoaded, m)
  | .stageAbort m _ => some (.stageAbort, m)
  | .deviationSet m _ _ _ _ _ => some (.deviationSet, m)
  | .deviationClear m _ => some (.deviationClear, m)
  | .deviationQuery m _ => some (.deviationQuery, m)
  | .touchdown m _ _ _ => some (.touchdown, m)
  | .siteEnable m _ _ => some (.siteEnable, m)
  | .yieldQuery m _ _ => some (.yieldQuery, m)
  | .lotHold m _ => some (.lotHold, m)
  | .lotDisposeContinue m _ _ => some (.lotDispose, m)
  | .lotDisposeRescreen m _ _ => some (.lotDispose, m)
  | .lotDisposeScrap m _ _ => some (.lotDispose, m)
  | .drained m _ => some (.drained, m)
  | .lotEndorse m _ _ => some (.lotEndorse, m)
  | .endorseWithdraw m _ => some (.endorseWithdraw, m)
  | .shipCollect m _ => some (.shipCollect, m)
  | .releaseQuery m _ => some (.releaseQuery, m)

end Sys2Proof

namespace Sys2Proof.Machine

/-- The content of the part: everything but its Link Interface. -/
def State.content (s : State) : State := { s with link := State.reset.link }

/-! ### Conditions that every event keeps -/

/-- Docking is kept in both records: a handler names a tester exactly when the tester names the handler (R73). -/
def State.DockingMutual (s : State) : Prop :=
  ∀ (h : HandlerId) (t : TesterId), s.handlers[h].docked = some t ↔ s.testers[t].docked = some h

/-- Binding is kept in both records: a station names a handler exactly when the handler names the station (R176, R178). -/
def State.BindingMutual (s : State) : Prop :=
  ∀ (i : StationId) (h : HandlerId), s.stations[i].bound = some h ↔ s.handlers[h].bound = some i

/-- Station 1 is enrolled with SUPERVISOR and FLOOR and has no handler (R176). -/
def State.FirstStation (s : State) : Prop :=
  s.stations[(0 : StationId)].enrolled = true ∧ s.stations[(0 : StationId)].roles = 0b000011 ∧
  s.stations[(0 : StationId)].bound = none

/-- A station's mask holds only kinds its roles receive, and PART_RESET while it is enrolled; its attention set holds only kinds of
its mask, each at most once, in code order (R177, R181). -/
def Station.MarksInMask (x : Station) : Prop :=
  (∀ k : AttentionKind, x.mask.has k = true → (fullMask x.roles).has k = true) ∧
  (x.enrolled = true → x.mask.has .partReset = true) ∧
  (∀ m ∈ x.attention, x.mask.has m.kind = true) ∧
  x.attention.Pairwise (fun a b => a.kind.code < b.kind.code)

/-- Every station's marks stay within its mask. -/
def State.MarksInMasks (s : State) : Prop := ∀ i : StationId, s.stations[i].MarksInMask

/-- The queues of the Link Interface hold at most 4 entries, and every counter of the part is within its width (R42, R158, R171,
R174, R184, R185). -/
def State.CountersInRange (s : State) : Prop :=
  s.link.rxBuffer.length ≤ 4 ∧ s.link.responses.length ≤ 4 ∧
  s.link.badFrames ≤ 65535 ∧ s.link.dropped ≤ 65535 ∧ s.link.linkFaults ≤ 65535 ∧ s.lineResets ≤ 255 ∧
  s.stampCounter ≤ 4294967295 ∧ s.waitingCounter ≤ 4294967295

/-- The counts of a step record agree: every unit tested is good or a fail of one group, and tested is within its maximum (R7,
R112, R114). -/
def StepRecord.CountsAgree (r : StepRecord) : Prop := r.good + r.fails.total = r.tested ∧ r.tested ≤ 16777215

/-- The counts of every step record of every lot agree. -/
def State.CountsAgree (s : State) : Prop := ∀ l ∈ s.lots, ∀ r ∈ l.steps, r.CountsAgree

/-- An occupied deviation entry has at least one use remaining, and no more lots pending than uses remaining (R91, R94). -/
def State.DeviationsCovered (s : State) : Prop :=
  ∀ d : DevId, ∀ e ∈ s.deviations[d], e.pending ≤ e.remaining ∧ 1 ≤ e.remaining

/-- A lot is RESERVED under a deviation entry: its resolved program names the entry (R94). -/
def Lot.reservedUnder (d : DevId) (l : Lot) : Bool :=
  match l.state with
  | .reserved _ _ r => r.deviation = some d
  | _ => false

/-- The pending count of every deviation entry is the number of RESERVED lots whose resolved program names it; no RESERVED lot
names a free entry (R94). -/
def State.PendingCounts (s : State) : Prop :=
  ∀ d : DevId, s.lots.countP (Lot.reservedUnder d) = ((s.deviations[d]).map (·.pending)).getD 0

/-- The lots stand in slot order, each slot at most once (R1). -/
def State.SlotsInOrder (s : State) : Prop := s.lots.Pairwise (fun a b => a.slot < b.slot)

/-- A lot has been let go only by distinct stations whose endorsements cover its required roles: the list of every lot names each
station and each role at most once, and the list of a RELEASED or waiting lot covers the required roles (R151, R155, R158). -/
def Lot.LetGo (l : Lot) : Prop :=
  (l.endorsements.map (·.station)).Nodup ∧ (l.endorsements.map (·.role)).Nodup ∧
  (l.state = .released ∨ l.state.waiting?.isSome = true → l.missingRoles = [])

/-- Slots in order, and every lot let go as R151 requires. -/
def State.LetGoByRoles (s : State) : Prop := s.SlotsInOrder ∧ ∀ l ∈ s.lots, l.LetGo

/-- A lot's state and the cell state of its handler agree, read from the lot (R4, R67). -/
def State.LotOnCell (s : State) (l : Lot) : Prop :=
  match l.state with
  | .reserved _ h _ => s.handlers[h].cell.reserved = some l.slot
  | .running h _ => ∃ q, s.handlers[h].cell = .running l.slot q
  | .draining h _ _ => ∃ q, s.handlers[h].cell = .draining l.slot q
  | _ => True

/-- The reserved lot of a cell is RESERVED for its handler (R67). -/
def State.ReservedOfCell (s : State) (h : HandlerId) : Prop :=
  ∀ k, s.handlers[h].cell.reserved = some k → ∃ l ∈ s.lots, l.slot = k ∧ ∃ w r, l.state = .reserved w h r

/-- The current lot of a cell is RUNNING or DRAINING on its handler, as the cell is (R67, R82). -/
def State.CurrentOfCell (s : State) (h : HandlerId) : Prop :=
  (∀ k q, s.handlers[h].cell = .running k q → ∃ l ∈ s.lots, l.slot = k ∧ ∃ r, l.state = .running h r) ∧
  (∀ k q, s.handlers[h].cell = .draining k q → ∃ l ∈ s.lots, l.slot = k ∧ ∃ r c, l.state = .draining h r c)

/-- A lot with a reason in its hold set is DRAINING or HELD (R132). -/
def Lot.HoldsInState (l : Lot) : Prop := l.holds ≠ [] → l.state.name = .held ∨ l.state.name = .draining

/-- The release queue holds at most 32 records, one for each RELEASED lot and for no other (R155). -/
def State.ReleaseQueueAgrees (s : State) : Prop :=
  s.releaseQueue.length ≤ 32 ∧ (s.releaseQueue.map (·.slot)).Nodup ∧
  (∀ r ∈ s.releaseQueue, ∃ l ∈ s.lots, l.slot = r.slot ∧ l.state = .released) ∧
  (∀ l ∈ s.lots, l.state = .released → ∃ r ∈ s.releaseQueue, r.slot = l.slot)

/-- The floor is consistent: slots in order; lots and cells agree about who holds whom; a lot with a hold is DRAINING or HELD;
the release queue is exactly the RELEASED lots, at most 32; and it holds 32 whenever a lot waits for a place in it (R1, R67,
R132, R155, R159). -/
structure State.Consistent (s : State) : Prop where
  slots : s.SlotsInOrder
  lotOnCell : ∀ l ∈ s.lots, s.LotOnCell l
  reservedOfCell : ∀ h : HandlerId, s.ReservedOfCell h
  currentOfCell : ∀ h : HandlerId, s.CurrentOfCell h
  holds : ∀ l ∈ s.lots, l.HoldsInState
  release : s.ReleaseQueueAgrees
  waiting : s.waitingList ≠ [] → s.releaseQueue.length = 32

end Sys2Proof.Machine
end

