-- ==== Sys2Proof/Certificates/Slice0/Obligations.lean ====
section
/-! DEFINITION. Certificates/Slice0/Obligations.lean: what is claimed of the FD416, one statement per obligation.

A statement about a request speaks of a state that `takes` it (`Sys2Proof/Safety.lean`): the part is out of reset, the response
queue has room, the frame is delivered, its sender is enrolled and passes the role check of its kind, and its payload fits
(assumptions 1 and 2; assumption n is `notes/assumptions/n.md`).  The state after it is written out: `s.taken` with the changes
named, and the answer appended by `answered`.  A statement whose conclusion is such an equation is the frame of the command as
well: every field it does not name is as before. -/

open Sys2Proof Sys2Proof.Machine

/-! ### The command queue -/

/-- A step takes the command at the front of the queue and executes it with the rest of the queue.  How commands come and
run is the model's choice (assumption 4). -/
def Obligations.StepRunsFrontCommand : Prop :=
  ∀ (c : Instr) (rest : List Instr) (s : State), step { s with pending := c :: rest } = exec c { s with pending := rest }

/-- No command stops the part, and none changes the queue of the commands that wait: in every state every command has a next
state, with the same queue.  A request that cannot be taken is answered with a result code, or waits.  That a request waits,
without an effect, until its frame can be delivered is the model's reading (assumption 1). -/
def Obligations.EveryCommandGoesOn : Prop :=
  ∀ (c : Instr) (s : State), ∃ t, exec c s = .next t ∧ t.pending = s.pending

/-! ### Resets -/

/-- Power-on: every table is empty, station 1 alone is enrolled with SUPERVISOR and FLOOR and an empty attention set, the
settings are 1200, 2 and 1440, the counters and floor time are 0, the reset cause is POWER_ON, and the straps give the bit
rate.  That the command also ends a reset, and carries the straps' levels, is the model's choice (assumption 5). -/
def Obligations.PowerOnReset : Prop :=
  ∀ (rate1 rate0 : Bool) (s : State), ∃ t, exec (.powerOnReset rate1 rate0) s = .next t ∧
    t.lots = [] ∧ (∀ i : ProductIx, t.products[i] = ⟨none, none⟩) ∧ (∀ i : LibIx, t.library[i] = none) ∧
    (∀ h : HandlerId, t.handlers[h] = Handler.initial) ∧ (∀ u : TesterId, t.testers[u] = Tester.initial) ∧
    (∀ d : DevId, t.deviations[d] = none) ∧ (∀ h : HandlerId, t.guards[h] = none) ∧
    (t.stations[(0 : StationId)].enrolled = true ∧ t.stations[(0 : StationId)].roles = 0b000011 ∧
      t.stations[(0 : StationId)].bound = none ∧ t.stations[(0 : StationId)].mask = fullMask 0b000011 ∧
      t.stations[(0 : StationId)].attention = []) ∧
    (∀ i : StationId, i ≠ 0 → t.stations[i] = Station.initial) ∧
    t.settings = ⟨1200, 2, 1440⟩ ∧ t.stampCounter = 0 ∧ t.waitingCounter = 0 ∧ t.releaseQueue = [] ∧
    t.floorTime = 0 ∧ t.divider = 0 ∧ t.resetCause = .powerOn ∧ t.lineResets = 0 ∧ t.inReset = false ∧
    t.link.rxBuffer = [] ∧ t.link.responses = [] ∧ t.link.badFrames = 0 ∧ t.link.dropped = 0 ∧ t.link.linkFaults = 0 ∧
    t.link.bitRate = (match rate1, rate0 with
      | false, false => .kbit125
      | false, true => .kbit250
      | true, false => .kbit500
      | true, true => .kbit1000) ∧
    t.pending = s.pending

/-- A line reset: a RUNNING or DRAINING lot gets INTERRUPTED, its run is ended and it is HELD; a RESERVED lot is QUEUED as
it waited; every handler is OFFLINE, every staged slot EMPTY, every pending count 0, every guard without a run; both queues
of the link are emptied; the reset is counted up to 255; HOLD_PLACED is marked where an entry was added; all else is kept.
That these effects stand at the fall of RESETN, and the rest of the reset table at its rise, is the model's reading
(assumption 6). -/
def Obligations.LineReset : Prop :=
  ∀ s : State, s.inReset = false → s.SlotsInOrder →
    exec .lineReset s = .next
      { s with
        lots := s.lots.map (fun l =>
          match l.state with
          | .running _ _ | .draining _ _ _ =>
            { l with
              state := .held
              holds := if l.hasHold .interrupted then l.holds else insertHold ⟨.interrupted, s.floorTime, none, 0⟩ l.holds
              cur := { l.cur with runs := endRun s.floorTime l.cur.runs } }
          | .reserved w _ _ => { l with state := .queued w }
          | _ => l)
        handlers := vecMap (fun x =>
          { x with cell := .offline, thermal := .unknown, setpoint := none, target := none, soakLeft := 0, requiredKit := none
                   stallLeft := 0, stalled := false }) s.handlers
        testers := vecMap (fun x => { x with staged := none }) s.testers
        deviations := vecMap (fun o => o.map (fun e => { e with pending := 0 })) s.deviations
        guards := Vector.replicate 16 none
        stations :=
          if s.lots.any (fun l => (l.state.name = .running || l.state.name = .draining) && !l.hasHold .interrupted) then
            (s.markRoles [.quality, .floor] .holdPlaced 0).stations
          else s.stations
        link := { s.link with rxBuffer := [], responses := [] }
        resetCause := .line
        lineResets := min 255 (s.lineResets + 1)
        inReset := true }

/-- RESETN returns high: PART_RESET is marked for every enrolled station whose mask holds it, the straps are read, and the
divider restarts; nothing else changes.  While RESETN is low nothing happens but its release and a power-on: no frame is
received or delivered, no response is sent, no tick is produced and nothing expires.  That nothing happens while RESETN is
low, and that the release changes nothing else, is the model's reading (assumption 6). -/
def Obligations.InReset : Prop :=
  (∀ (rate1 rate0 : Bool) (s : State), s.inReset = true →
    exec (.resetRelease rate1 rate0) s = .next
      { s with
        stations := vecMap (fun x =>
          if x.enrolled && x.roles ≠ 0 && x.mask.has .partReset then { x with attention := addMark .partReset 0 x.attention }
          else x) s.stations
        link := { s.link with bitRate := match rate1, rate0 with
          | false, false => .kbit125
          | false, true => .kbit250
          | true, false => .kbit500
          | true, true => .kbit1000 }
        divider := 0
        inReset := false }) ∧
  (∀ (c : Instr) (s : State), s.inReset = true → (∀ a b, c ≠ .powerOnReset a b) → (∀ a b, c ≠ .resetRelease a b) →
    exec c s = .next s)

/-! ### The floor link -/

/-- Every frame that can be sent to the part is read back from the line bit for bit: stuffing, field order and check byte of
the sender are undone by the receiver, for every priority, sender, kind, tag and payload of up to 48 bytes.  A frame to
another node is ignored. -/
def Obligations.FrameRoundTrip : Prop :=
  (∀ (p : Bool) (sender : StationId) (kind : Fin 64) (tag : Fin 16) (payload : List Byte), payload.length ≤ 48 →
    receive (lineLevels p (number sender) 0 kind.val tag.val payload) =
      .good { priority := p, sender := sender, kind := kind.val, tag := tag, payload := payload }) ∧
  (∀ (p : Bool) (sender receiver : Fin 32) (kind : Fin 64) (tag : Fin 16) (payload : List Byte), payload.length ≤ 48 →
    receiver ≠ 0 → receive (lineLevels p sender.val receiver.val kind.val tag.val payload) = .ignored)

/-- The check byte is the remainder left when the string, followed by eight 0 bits, is divided by x⁸ + x² + x + 1 in
modulo-2 arithmetic: as polynomials over the integers modulo 2, the first bit the highest power.  The levels of a frame
never hold six equal bits in a row. -/
def Obligations.CheckByteAndStuffing : Prop :=
  (∀ bits : List Bool,
    let poly (bs : List Bool) : Polynomial (ZMod 2) :=
      bs.foldl (fun p b => p * Polynomial.X + Polynomial.C (if b then 1 else 0)) 0
    poly (bits ++ List.replicate 8 false) %ₘ
        (Polynomial.X ^ 8 + Polynomial.X ^ 2 + Polynomial.X + 1) =
      poly (bitsOf 8 (checkByte bits).toNat)) ∧
  (∀ (bits : List Bool) (level : Bool), ¬ List.replicate 6 level <:+: stuff bits)

/-- What the part does with the levels of one frame: a good frame addressed to node 0 is acknowledged and appended when both
queues have room, and is discarded unacknowledged and uncounted otherwise; a bad one is counted, up to 65,535; any other is
ignored.  A frame that ends or is ill stuffed before its receiver field is whole is ignored, which is the model's reading
(assumption 11).  The response at the head of the queue is sent once and leaves it: a response whose bits read back
differently is counted as a link fault, one that is not acknowledged as dropped, each up to 65,535. -/
def Obligations.FramesInAndResponsesOut : Prop :=
  (∀ (levels : List Bool) (s : State), s.inReset = false →
    (∀ f, receive levels = .good f → s.link.rxBuffer.length < 4 → s.link.responses.length < 4 →
      exec (.frameReceive levels) s = .next { s with link := { s.link with rxBuffer := s.link.rxBuffer ++ [f], ackSlot := true } }) ∧
    (∀ f, receive levels = .good f → 4 ≤ s.link.rxBuffer.length ∨ 4 ≤ s.link.responses.length →
      exec (.frameReceive levels) s = .next { s with link := { s.link with ackSlot := false } }) ∧
    (receive levels = .bad →
      exec (.frameReceive levels) s = .next
        { s with link := { s.link with badFrames := min 65535 (s.link.badFrames + 1), ackSlot := false } }) ∧
    (receive levels = .ignored → exec (.frameReceive levels) s = .next s)) ∧
  (∀ (r : Response) (rest : List Response) (s : State), s.inReset = false → s.link.responses = r :: rest →
    exec (.responseSend .acknowledged) s = .next { s with link := { s.link with responses := rest, lineOut := some r } } ∧
    exec (.responseSend .notAcknowledged) s = .next
      { s with link := { s.link with responses := rest, lineOut := some r, dropped := min 65535 (s.link.dropped + 1) } } ∧
    exec (.responseSend .readBackDiffers) s = .next
      { s with link := { s.link with responses := rest, linkFaults := min 65535 (s.link.linkFaults + 1) } })

/-- The Link Interface answers a delivered frame itself: NOT_PERMITTED for a sender that is not enrolled, UNKNOWN_KIND for a
kind outside the table, NOT_PERMITTED for a sender without the roles of its kind; the frame leaves the buffer and no table
changes.  How a delivered frame is found is the model's reading (assumption 1). -/
def Obligations.LinkRefusal : Prop :=
  ∀ (sender : StationId) (kind : Fin 64) (tag : Fin 16) (f : Frame) (rest : List Frame) (s : State), s.inReset = false →
    s.link.responses.length < 4 → s.link.rxBuffer = f :: rest → f.sender = sender → f.kind = kind.val → f.tag = tag →
    let answer (r : Result) : State :=
      { s with link := { s.link with
          rxBuffer := rest
          responses := s.link.responses ++ [{ receiver := sender, kind := kind.val, tag := tag, result := r
                                              attention := !s.stations[sender].attention.isEmpty, body := .nothing }] } }
    (s.stations[sender].enrolled = false → exec (.linkRefusal sender kind tag) s = .next (answer .notPermitted)) ∧
    (s.stations[sender].enrolled = true → Kind.ofCode? kind.val = none →
      exec (.linkRefusal sender kind tag) s = .next (answer .unknownKind)) ∧
    (∀ k, s.stations[sender].enrolled = true → Kind.ofCode? kind.val = some k →
      k.roleCheck.admits s.stations[sender].roles = false →
      exec (.linkRefusal sender kind tag) s = .next (answer .notPermitted))

/-- A refused request changes nothing: whatever a request answers other than OK, the content of the part is as it was, and
the link has lost at most the request's frame and gained its answer.  Waiting and delivery are the model's reading
(assumption 1). -/
def Obligations.RefusalsChangeNothing : Prop :=
  ∀ (c : Instr) (k : Kind) (m : Msg) (s t : State), c.request? = some (k, m) → exec c s = .next t → t ≠ s →
    ∃ r b u, t = State.answered u m k r b ∧ (r ≠ .ok → u = s.taken)

/-! ### The second tick and the countdowns -/

/-- A second tick: floor time is one more, the divider restarts, and every queue age, queue-time countdown, soak countdown,
stall countdown and staging deadline that runs is advanced by one; nothing else changes.  The divider held at 0 between
ticks is the model's choice (assumption 7).  That the tick does no more to a countdown it brings to 0, and that one standing at
0 stays there through further ticks, is the model's reading (assumption 3). -/
def Obligations.SecondTick : Prop :=
  ∀ s : State, s.inReset = false →
    let waitTick (w : Wait) : Wait := { w with age := min 604800 (w.age + 1), left := w.left.map (fun n => n - 1) }
    exec .secondTick s = .next
      { s with
        floorTime := s.floorTime + 1
        divider := 0
        lots := s.lots.map (fun l =>
          match l.state with
          | .queued w => { l with state := .queued (waitTick w) }
          | .reserved w h r => { l with state := .reserved (waitTick w) h r }
          | _ => l)
        handlers := vecMap (fun x =>
          { x with
            soakLeft := if x.thermal = .soaking then x.soakLeft - 1 else x.soakLeft
            stallLeft := if x.cell.name = .running ∧ x.stalled = false then x.stallLeft - 1 else x.stallLeft }) s.handlers
        testers := vecMap (fun x =>
          { x with staged := x.staged.map (fun g =>
              if g.state = .loading then { g with deadline := g.deadline - 1 } else g) }) s.testers }

/-- A queue-time countdown that has reached 0 places QUEUE_TIME: a QUEUED lot becomes HELD with HOLD_PLACED marked; a
RESERVED lot becomes HELD, its reservation cancelled as a hold cancels it, with HOLD_PLACED and RESERVATION_CANCELLED
marked. -/
def Obligations.QueueTimeExpiry : Prop :=
  ∀ (s : State) (k : Slot) (l : Lot) (w : Wait), s.inReset = false → s.SlotsInOrder → s.lot? k = some l →
    l.holds = [] → w.left = some 0 →
    let held : List Lot := s.lots.map (fun x =>
      if x.slot = k then { x with state := .held, holds := [⟨.queueTime, s.floorTime, none, 0⟩] } else x)
    let marked : State := s.markRoles [.quality, .floor] .holdPlaced 0
    (l.state = .queued w →
      exec (.queueTimeExpiry k) s = .next { s with lots := held, stations := marked.stations }) ∧
    (∀ h r, l.state = .reserved w h r →
      exec (.queueTimeExpiry k) s = .next
        { s with
          lots := held
          handlers := s.handlers.set h (Handler.dropReserved s.handlers[h])
          deviations := (s.updPending r.deviation (fun n => n - 1)).deviations
          stations := (marked.markBound h .reservationCancelled (unitBit h)).stations })

/-- A soak countdown that has reached 0 makes its handler AT_TEMP and has the ready conditions checked; a stall countdown
that has reached 0 sets the stalled flag and marks STALLED for the bound station and every FLOOR station.  A staging
deadline that has reached 0 makes the slot FAULT with cause TIMEOUT, and STAGING_FAULT naming the tester is marked for the
docked handler's bound station and every ENGINEERING station; what follows is the end of the load.  An expiry that is not
due changes nothing: a countdown that is absent, does not run or has not reached 0 does not expire.  That a due expiry is a
command of its own, and changes nothing when not due, is the model's reading (assumption 3). -/
def Obligations.ExpiriesOfHandlersAndLoads : Prop :=
  (∀ (s : State) (h : HandlerId), s.inReset = false →
    (s.handlers[h].thermal = .soaking → s.handlers[h].soakLeft = 0 →
      exec (.soakExpiry h) s = .next ((s.updHandler h (fun x => { x with thermal := .atTemp })).readyCheck h)) ∧
    (∀ k q, s.handlers[h].cell = .running k q → s.handlers[h].stalled = false → s.handlers[h].stallLeft = 0 →
      exec (.stallExpiry h) s = .next
        (((s.updHandler h (fun x => { x with stalled := true })).markBound h .stalled (unitBit h)).markRoles [.floor] .stalled
          (unitBit h)))) ∧
  (∀ (s : State) (u : TesterId) (g : Staged), s.inReset = false → s.testers[u].staged = some g → g.state = .loading →
    g.deadline = 0 →
    let failed : State := s.updTester u (fun x => { x with staged := some { g with state := .fault .timeout } })
    (s.testers[u].docked = none →
      exec (.stagingDeadlineExpiry u) s = .next (failed.markRoles [.engineering] .stagingFault (unitBit u))) ∧
    (∀ h : HandlerId, s.testers[u].docked = some h → s.reservedOn h = none →
      exec (.stagingDeadlineExpiry u) s = .next
        ((failed.markBound h .stagingFault (unitBit u)).markRoles [.engineering] .stagingFault (unitBit u))) ∧
    (∀ h : HandlerId, s.testers[u].docked = some h →
      exec (.stagingDeadlineExpiry u) s = .next
        (((failed.markBound h .stagingFault (unitBit u)).markRoles [.engineering] .stagingFault (unitBit u)).afterLoad u))) ∧
  (∀ s : State,
    (∀ k, (∀ l, s.lot? k = some l → ∀ w, l.state.wait? = some w → w.left ≠ some 0) →
      exec (.queueTimeExpiry k) s = .next s) ∧
    (∀ h : HandlerId, s.handlers[h].thermal ≠ .soaking ∨ s.handlers[h].soakLeft ≠ 0 → exec (.soakExpiry h) s = .next s) ∧
    (∀ h : HandlerId, s.handlers[h].cell.name ≠ .running ∨ s.handlers[h].stalled = true ∨ s.handlers[h].stallLeft ≠ 0 →
      exec (.stallExpiry h) s = .next s) ∧
    (∀ u : TesterId, (∀ g, s.testers[u].staged = some g → g.state ≠ .loading ∨ g.deadline ≠ 0) →
      exec (.stagingDeadlineExpiry u) s = .next s))

/-- A load that ends on a tester whose handler has a reserved lot with resolved program p: with p at hand the ready
conditions are checked; a failed load of p restarts while its attempt count is below 3 and cancels the reservation at 3;
otherwise a load of p starts with attempt count 1; without a docked handler, or without a reserved lot on it, nothing follows.
A load, whatever starts it, is LOADING with the library signature and a deadline of 2 × E, and marks STAGE_REQUEST for the
bound station of the docked handler; on a tester that is not docked it marks nothing. -/
def Obligations.AfterALoadEnds : Prop :=
  (∀ (s : State) (u : TesterId) (h : HandlerId) (k : Slot) (p : Program), s.testers[u].docked = some h →
    s.reservedOn h = some (k, p) →
    (s.testers[u].atHand p = true → s.afterLoad u = s.readyCheck h) ∧
    (s.testers[u].atHand p = false → ∀ g, s.testers[u].staged = some g → g.program = p → g.attempts < 3 →
      s.afterLoad u = s.startLoad u p (g.attempts + 1)) ∧
    (s.testers[u].atHand p = false → ∀ g, s.testers[u].staged = some g → g.program = p → 3 ≤ g.attempts →
      s.afterLoad u = s.cancelReservation k false) ∧
    (s.testers[u].atHand p = false → (∀ g, s.testers[u].staged = some g → g.program ≠ p) →
      s.afterLoad u = s.startLoad u p 1)) ∧
  (∀ (s : State) (u : TesterId), (∀ h : HandlerId, s.testers[u].docked = some h → s.reservedOn h = none) → s.afterLoad u = s) ∧
  (∀ (s : State) (h : HandlerId) (k : Slot) (p : Program),
    s.reservedOn h = some (k, p) ↔
      s.handlers[h].cell.reserved = some k ∧ ∃ l r, s.lot? k = some l ∧ l.state.resolved? = some r ∧ r.program = p) ∧
  (∀ (s : State) (u : TesterId) (p : Program) (e : LibraryEntry) (n : Nat), s.revision? p = some e →
    let loading : State := s.updTester u (fun x =>
      { x with staged := some { state := .loading, program := p, expected := e.signature, reported := none
                                deadline := 2 * e.estimate, attempts := n } })
    (s.testers[u].docked = none → s.startLoad u p n = loading) ∧
    (∀ h : HandlerId, s.testers[u].docked = some h → s.startLoad u p n = loading.markBound h .stageRequest (unitBit h)))

/-- The ready conditions: a PREPARING handler whose reserved lot's program is at hand and RELEASED, which is AT_TEMP at the
step's setpoint with the step's kit, goes to READY with READY_TO_START; a READY handler that lacks one goes back to
PREPARING, as does one whose handler has no tester docked; an OFFLINE, IDLE, RUNNING or DRAINING handler is not checked. -/
def Obligations.ReadyConditions : Prop :=
  (∀ (s : State) (h : HandlerId) (k : Slot) (l : Lot) (u : TesterId) (r : Resolved), s.lot? k = some l →
    s.handlers[h].docked = some u → l.state.resolved? = some r →
    let ready : Prop := s.testers[u].atHand r.program = true ∧ s.isReleased r.program = true ∧ s.handlers[h].thermal = .atTemp ∧
      s.handlers[h].setpoint = some (s.stepOf l).setpoint ∧ s.handlers[h].kit = some (s.stepOf l).kit
    (s.handlers[h].cell = .preparing k → ready →
      s.readyCheck h = (s.updHandler h (fun x => { x with cell := .ready k })).markBound h .readyToStart (unitBit h)) ∧
    (s.handlers[h].cell = .preparing k → ¬ ready → s.readyCheck h = s) ∧
    (s.handlers[h].cell = .ready k → ready → s.readyCheck h = s) ∧
    (s.handlers[h].cell = .ready k → ¬ ready → s.readyCheck h = s.updHandler h (fun x => { x with cell := .preparing k }))) ∧
  (∀ (s : State) (h : HandlerId) (k : Slot), s.handlers[h].docked = none →
    (s.handlers[h].cell = .preparing k → s.readyCheck h = s) ∧
    (s.handlers[h].cell = .ready k → s.readyCheck h = s.updHandler h (fun x => { x with cell := .preparing k }))) ∧
  (∀ (s : State) (h : HandlerId), s.handlers[h].cell.name ≠ .preparing → s.handlers[h].cell.name ≠ .ready → s.readyCheck h = s)

/-- TIME_SET: floor time becomes the value given and nothing else but the answer changes, so every countdown, age, timestamp
and the divider stay; the next tick counts on from the new value; a payload that is not 4 bytes long is answered BAD_FORMAT;
the kind is for SUPERVISOR stations. -/
def Obligations.TimeSet : Prop :=
  ∀ (m : Msg) (time : Time) (s : State),
    (s.takes m .timeSet (readsAs readTimeSet m.fits time) = true →
      exec (.timeSet m time) s = .next ({ s.taken with floorTime := time }.answered m .timeSet .ok (.timeSet s.floorTime time))) ∧
    (s.inReset = false → ∃ t, exec .secondTick { s with floorTime := time } = .next t ∧ t.floorTime = time + 1) ∧
    (∀ payload : List Byte, payload.length ≠ 4 → readsAs readTimeSet false time payload = true) ∧
    (∀ payload : List Byte, payload.length = 4 → ∃ x, readTimeSet payload = some x) ∧
    (m.fits = false → s.delivers m .timeSet (readsAs readTimeSet m.fits time) = true →
      s.stations[m.sender].enrolled = true → (s.rolesOf m.sender).has .supervisor = true →
      exec (.timeSet m time) s = .next (s.taken.answered m .timeSet .badFormat .nothing)) ∧
    Kind.timeSet.roleCheck = .roles [.supervisor]

/-! ### Stations and attention -/

/-- Marking a kind for roles reaches exactly the enrolled stations that hold one of them and whose mask holds the kind; marking
it for a handler reaches exactly its bound station, where it has one, if that station's mask holds the kind; a marking changes
nothing but the attention sets of the stations it reaches; a kind already marked gains the units, another kind's mark is not touched, and the set stays in code order with one mark per kind.
-/
def Obligations.AttentionMarking : Prop :=
  (∀ (s : State) (roles : List Role) (k : AttentionKind) (u : BitVec 16),
    { s with stations := (s.markRoles roles k u).stations } = s.markRoles roles k u ∧
    ∀ i : StationId, (s.markRoles roles k u).stations[i] =
      if s.stations[i].enrolled = true ∧ s.stations[i].roles.hasAny roles = true ∧ s.stations[i].mask.has k = true then
        { s.stations[i] with attention := addMark k u s.stations[i].attention }
      else s.stations[i]) ∧
  (∀ (s : State) (h : HandlerId) (k : AttentionKind) (u : BitVec 16),
    { s with stations := (s.markBound h k u).stations } = s.markBound h k u ∧
    ∀ i : StationId, (s.markBound h k u).stations[i] =
      if s.handlers[h].bound = some i ∧ s.stations[i].mask.has k = true then
        { s.stations[i] with attention := addMark k u s.stations[i].attention }
      else s.stations[i]) ∧
  (∀ (k : AttentionKind) (u : BitVec 16) (ms : List Mark), ms.Pairwise (fun a b => a.kind.code < b.kind.code) →
    (addMark k u ms).Pairwise (fun a b => a.kind.code < b.kind.code) ∧
    (∀ x ∈ ms, x.kind = k → ⟨k, x.units ||| u⟩ ∈ addMark k u ms) ∧
    ((∀ x ∈ ms, x.kind ≠ k) → ⟨k, u⟩ ∈ addMark k u ms) ∧
    (∀ x : Mark, x.kind ≠ k → (x ∈ addMark k u ms ↔ x ∈ ms)))

/-- STATION_ENROLL: the entry becomes enrolled with the roles given and the full mask for them; the binding moves in both
records; a station that was not enrolled starts with no marks, and one that was keeps the marks its new mask holds, of the
handler kinds only the units of its handler, but STALLED whole where it holds FLOOR.  A mark of a handler kind left without
units is dropped, which is the model's reading (assumption 10); that FLOOR and the handler are those of the enrolment given, not
of the one before it, is the model's choice (assumption 23).  STATION_REMOVE: the entry becomes unenrolled, its handler's bound station absent; maintenance
locks stay. -/
def Obligations.Enrolment : Prop :=
  (∀ (m : Msg) (i : StationId) (roles : Byte) (new : Option HandlerId) (s : State), s.takes m .stationEnroll anyPayload = true →
    i ≠ 0 → roles ≠ 0 → roles.toNat < 64 →
    let rs : RoleSet := roles.setWidth 6
    rs.has .cell = new.isSome → s.boundElsewhere i new = false → s.rebindBusy i new = false →
    let old := s.stations[i].bound
    let kept (x : Mark) : Option Mark :=
      if !(fullMask rs).has x.kind then none
      else if x.kind.code ≤ 7 && !(x.kind = .stalled && rs.has .floor) then
        match new with
        | some h => if x.units.getLsbD h.val then some { x with units := unitBit h } else none
        | none => none
      else some x
    exec (.stationEnroll m (number i) roles (new.map number)) s = .next
      ({ s.taken with
          handlers := vecOfFn (fun h =>
            if new = some h then { s.handlers[h] with bound := some i }
            else if old = some h then { s.handlers[h] with bound := none }
            else s.handlers[h])
          stations := s.stations.set i
            { enrolled := true, roles := rs, bound := new, mask := fullMask rs
              attention := if s.stations[i].enrolled then s.stations[i].attention.filterMap kept else [] } }.answered
        m .stationEnroll .ok (.enrolled s.stations[i].enrolled))) ∧
  (∀ (m : Msg) (i : StationId) (s : State), s.takes m .stationRemove anyPayload = true → i ≠ 0 →
    s.stations[i].enrolled = true →
    exec (.stationRemove m (number i)) s = .next
      ({ s.taken with
          handlers := vecOfFn (fun h =>
            if s.stations[i].bound = some h then { s.handlers[h] with bound := none } else s.handlers[h])
          stations := s.stations.set i Station.initial }.answered m .stationRemove .ok .nothing))

/-- ATTENTION_READ answers the sender's attention set and empties it; ATTENTION_MASK reads the mask, or stores the kinds
given that the sender's roles receive, with PART_RESET, and drops the marks that leave; a kind above 12 is answered
BAD_FORMAT. -/
def Obligations.AttentionReadAndMask : Prop :=
  ∀ (m : Msg) (s : State),
    (s.takes m .attentionRead (readsAs readEmpty m.fits ()) = true →
      exec (.attentionRead m) s = .next
        ({ s.taken with stations := s.stations.set m.sender { s.stations[m.sender] with attention := [] } }.answered
          m .attentionRead .ok (.attention s.stations[m.sender].attention))) ∧
    (s.takes m .attentionMask (readsAs readAttentionMask m.fits none) = true →
      exec (.attentionMask m none) s = .next (s.taken.answered m .attentionMask .ok (.mask s.stations[m.sender].mask))) ∧
    (∀ ks : BitVec 16, s.takes m .attentionMask (readsAs readAttentionMask m.fits (some ks)) = true →
      (ks.toNat < 8192 →
        let mask : KindSet := (ks.setWidth 13 &&& fullMask s.stations[m.sender].roles) ||| 0b1000000000000
        exec (.attentionMask m (some ks)) s = .next
          ({ s.taken with
              stations := s.stations.set m.sender
                { s.stations[m.sender] with
                  mask := mask, attention := s.stations[m.sender].attention.filter (fun x => mask.has x.kind) } }.answered
            m .attentionMask .ok (.mask mask))) ∧
      (8192 ≤ ks.toNat →
        exec (.attentionMask m (some ks)) s = .next (s.taken.answered m .attentionMask .badFormat .nothing)))

/-! ### Lots, products and programs -/

/-- LOT_REGISTER: the lot takes the lowest free slot with empty hold set and endorsements, clear flags and step 1 opened
with the start quantity; it is QUEUED with the next queue stamp, age 0 and a countdown of Q × 60 seconds unless Q is 0.  The
checks of LOT_REGISTER are made in order, and a refused registration changes no table. -/
def Obligations.LotRegister : Prop :=
  (∀ (m : Msg) (lot product : Text) (quantity priority : Nat) (p : ProductIx) (r : Route) (st : RouteStep) (k : Slot) (s : State),
    s.takes m .lotRegister (readsAs readLotRegister m.fits (lot, product, quantity, priority)) = true →
    lotIdOk lot = true → productCodeOk product = true → 1 ≤ quantity → quantity ≤ 999999 → priority ≤ 3 →
    s.activeProduct? product = some p → s.products[p].active = some r → r.steps[0]? = some st →
    (∀ l ∈ s.lots, l.id ≠ lot) → (∀ l ∈ s.lots, l.slot ≠ k) → (∀ j : Slot, j < k → ∃ l ∈ s.lots, l.slot = j) →
    let stamp := min 4294967295 (s.stampCounter + 1)
    exec (.lotRegister m lot product quantity priority) s = .next
      ({ s.taken with
          lots := insertLot
            { slot := k, id := lot, product := p, startQuantity := quantity, priority := priority
              state := .queued { stamp := stamp, age := 0, left := if st.queueLimit = 0 then none else some (st.queueLimit * 60) }
              holds := [], waiver := false, deviationUsed := false, endorsements := [], past := []
              cur := { quantityIn := quantity, tested := 0, good := 0, fails := ⟨0, 0, 0, 0⟩, missing := none, closeTime := none
                       finalYield := none, armed := true, rescreens := 0, saturated := false, runs := [] } } s.lots
          stampCounter := stamp }.answered m .lotRegister .ok (.registered k stamp))) ∧
  (∀ (m : Msg) (lot product : Text) (quantity priority : Nat) (s : State),
    s.takes m .lotRegister (readsAs readLotRegister m.fits (lot, product, quantity, priority)) = true →
    let wellFormed : Prop :=
      lotIdOk lot = true ∧ productCodeOk product = true ∧ 1 ≤ quantity ∧ quantity ≤ 999999 ∧ priority ≤ 3
    let answer (r : Result) : Prop :=
      exec (.lotRegister m lot product quantity priority) s = .next (s.taken.answered m .lotRegister r .nothing)
    (¬ wellFormed → answer .badFormat) ∧
    (wellFormed → s.activeProduct? product = none → answer .noSuchEntry) ∧
    (wellFormed → ∀ p l, s.activeProduct? product = some p → s.lotNamed? lot = some l → answer .duplicate) ∧
    (wellFormed → ∀ p, s.activeProduct? product = some p → s.lotNamed? lot = none →
      (∀ k : Slot, ∃ l ∈ s.lots, l.slot = k) → answer .tableFull))

/-- The requests that free an entry: LOT_PURGE of a SCRAPPED lot, or of a QUEUED lot at step 1 without runs; PRODUCT_REMOVE
of an entry not in use; PROGRAM_REMOVE of a WITHDRAWN revision no tester holds; DEVIATION_CLEAR of an entry without pending
lots.  Each answers what it freed, and nothing else changes. -/
def Obligations.FreeingRequests : Prop :=
  ∀ (m : Msg) (s : State),
    (∀ lot l, s.takes m .lotPurge anyPayload = true → lotIdOk lot = true → s.lotNamed? lot = some l →
      l.state = .scrapped ∨ ((∃ w, l.state = .queued w) ∧ l.past = [] ∧ l.cur.runs = []) →
      exec (.lotPurge m lot) s = .next
        ({ s.taken with lots := s.lots.filter (fun x => x.slot ≠ l.slot) }.answered m .lotPurge .ok (.slotFreed l.slot))) ∧
    (∀ i : ProductIx, s.takes m .productRemove anyPayload = true → s.products[i].state ≠ .free → s.lotCount i = 0 →
      s.deviationCount i = 0 →
      exec (.productRemove m (.index i.val)) s = .next
        ({ s.taken with products := s.products.set i ⟨none, none⟩ }.answered m .productRemove .ok (.productFreed i))) ∧
    (∀ p e i, s.takes m .programRemove anyPayload = true → programOk p e = true → s.libraryIndex? ⟨p, e⟩ = some i →
      s.isReleased ⟨p, e⟩ = false → s.activeHolders ⟨p, e⟩ = 0 → s.stagedHolders ⟨p, e⟩ = 0 →
      exec (.programRemove m p e) s = .next
        ({ s.taken with library := s.library.set i none }.answered m .programRemove .ok (.libraryEntry i))) ∧
    (∀ (d : DevId) e, s.takes m .deviationClear anyPayload = true → s.deviations[d] = some e → e.pending = 0 →
      exec (.deviationClear m (number d)) s = .next
        ({ s.taken with deviations := s.deviations.set d none }.answered m .deviationClear .ok
          (.deviationCleared e.remaining e.hits)))

/-- The requests that fill the lowest free entry: PROGRAM_DEFINE, a new revision in state RELEASED; DEVIATION_SET, a
permission to use a substitute revision for a step of an active route. -/
def Obligations.FillingRequests : Prop :=
  ∀ (m : Msg) (s : State),
    (∀ p e (sig : Signature) est (i : LibIx), s.takes m .programDefine anyPayload = true → programOk p e = true → 1 ≤ est →
      est ≤ 1800 → (∀ j : LibIx, ∀ x ∈ s.library[j], x.program ≠ ⟨p, e⟩) → s.library[i] = none →
      (∀ j : LibIx, j < i → s.library[j] ≠ none) →
      exec (.programDefine m p e sig est) s = .next
        ({ s.taken with
            library := s.library.set i (some
              { program := ⟨p, e⟩, signature := sig, estimate := est, defineTime := s.floorTime, definedBy := m.sender
                withdrawal := none }) }.answered m .programDefine .ok (.libraryEntry i))) ∧
    (∀ (i : ProductIx) n (rev sub rem : Nat) r st (d : DevId), s.takes m .deviationSet anyPayload = true →
      1 ≤ n → n ≤ 4 → s.products[i].active = some r → r.steps[n - 1]? = some st → rev = st.program.revision →
      within 1 255 rev = true → within 1 255 sub = true → within 1 255 rem = true → rev ≠ sub → s.deviations[d] = none →
      (∀ e : DevId, e < d → s.deviations[e] ≠ none) →
      exec (.deviationSet m i.val n rev sub rem) s = .next
        ({ s.taken with
            deviations := s.deviations.set d (some
              { product := i, step := n, fromRevision := rev, substitute := sub, remaining := rem, pending := 0, hits := 0
                owner := m.sender, setTime := s.floorTime }) }.answered m .deviationSet .ok (.deviationEntry d)))

/-- The route-step fields that are brought into range as a frame is stored: W rounded down to a multiple of 16 and then
brought into 16 to 256, H lowered to 1000 − L where L + H would exceed 1000, soak lowered to 3600; every other field as
given; and the answer to the frame, opening, continuing or completing, carries the stored soak, H and W; a frame with any field outside its given range is
answered BAD_FORMAT. -/
def Obligations.StepFieldsBroughtIntoRange : Prop :=
  ∀ g : StepGiven,
    (storeStep g).window = max 16 (min 256 (g.window - g.window % 16)) ∧
    (storeStep g).hysteresis = (if 1000 < g.yieldLow + g.hysteresis then 1000 - g.yieldLow else g.hysteresis) ∧
    (storeStep g).soak = min 3600 g.soak ∧
    ((storeStep g).setpoint = g.setpoint ∧ (storeStep g).program = ⟨g.programId, g.revision⟩ ∧ (storeStep g).kit = g.kit ∧
      (storeStep g).goodBins = g.goodBins ∧ (storeStep g).yieldLow = g.yieldLow ∧ (storeStep g).minSample = g.minSample ∧
      (storeStep g).windowLow = g.windowLow ∧ (storeStep g).groupLimit = ⟨g.limitA, g.limitB, g.limitC, g.limitD⟩ ∧
      (storeStep g).disparity = g.disparity ∧ (storeStep g).queueLimit = g.queueLimit ∧ (storeStep g).tolerance = g.tolerance ∧
      (stepGivenOk g = true → ∀ b : Fin 16, some ((storeStep g).groupOf[b].code) = g.groupOf[b.val]?)) ∧
    (∀ (m : Msg) (index count k : Nat) (code : Text) (s t : State), s.takes m .productDefine anyPayload = true →
      exec (.productDefine m index code count k g) s = .next t →
      ∃ r b, t.link.responses = s.link.responses ++
          [{ receiver := m.sender, kind := Kind.productDefine.code, tag := m.tag, result := r
             attention := !s.stations[m.sender].attention.isEmpty, body := b }] ∧
        (r = .ok →
          (∃ e n, b = .stepOpened e n (storeStep g).soak (storeStep g).hysteresis (storeStep g).window) ∨
          (∃ n, b = .stepContinued n (storeStep g).soak (storeStep g).hysteresis (storeStep g).window) ∨
          (∃ e, b = .definitionCompleted e (storeStep g).soak (storeStep g).hysteresis (storeStep g).window))) ∧
    (∀ (m : Msg) (index count k : Nat) (code : Text) (s : State), s.takes m .productDefine anyPayload = true →
      stepGivenOk g = false →
      exec (.productDefine m index code count k g) s = .next (s.taken.answered m .productDefine .badFormat .nothing))

/-- PRODUCT_DEFINE: step 1 of 1 makes the route active at once; step 1 of more opens a pending definition owned by the
sender; step k of n continues it while k < n; and step n completes it, making the pending steps the active route.  Each is
answered with the stored soak, H and W: step 1 with the entry state and the steps written, which is the model's reading for a
step 1 of 1 (assumption 22), a continuing step with the steps written, the completing one with state DEFINED. -/
def Obligations.ProductDefine : Prop :=
  ∀ (m : Msg) (i : ProductIx) (code : Text) (count k : Nat) (g : StepGiven) (s : State),
    s.takes m .productDefine anyPayload = true → productCodeOk code = true → 1 ≤ count → count ≤ 4 → 1 ≤ k → k ≤ count →
    stepGivenOk g = true →
    let st := storeStep g
    let becomes (p : ProductEntry) (b : Body) : Prop :=
      exec (.productDefine m i.val code count k g) s = .next
        ({ s.taken with products := s.products.set i p }.answered m .productDefine .ok b)
    let opened (e : ProductState) : Body := .stepOpened e 1 st.soak st.hysteresis st.window
    (k = 1 → s.lotCount i = 0 → s.deviationCount i = 0 → (∀ j : ProductIx, j ≠ i → s.products[j].holdsCode code = false) →
      (count = 1 → becomes ⟨some ⟨code, [st]⟩, none⟩ (opened .defined)) ∧
      (1 < count → becomes ⟨s.products[i].active, some ⟨code, count, [st], m.sender⟩⟩
        (opened (if s.products[i].active = none then .draft else .redefining)))) ∧
    (1 < k → ∀ d, s.products[i].draft = some d → d.owner = m.sender → d.code = code → d.count = count → k = d.steps.length + 1 →
      (k < count → becomes ⟨s.products[i].active, some { d with steps := d.steps ++ [st] }⟩
        (.stepContinued k st.soak st.hysteresis st.window)) ∧
      (k = count → s.lotCount i = 0 → s.deviationCount i = 0 → becomes ⟨some ⟨code, d.steps ++ [st]⟩, none⟩
        (.definitionCompleted .defined st.soak st.hysteresis st.window)))

/-- PROGRAM_WITHDRAW: the entry becomes WITHDRAWN with floor time and the sender; in the state it leaves, no lot is RESERVED
with the revision, no tester stages it, every tester that runs it has it marked, and every lot whose run in progress records
it on such a tester holds PROGRAM_WITHDRAWN; products, settings, guards, counters and floor time are as before. -/
def Obligations.ProgramWithdraw : Prop :=
  ∀ (m : Msg) (p e : Nat) (i : LibIx) (x : LibraryEntry) (s : State), s.takes m .programWithdraw anyPayload = true →
    s.Consistent → programOk p e = true → s.libraryIndex? ⟨p, e⟩ = some i → s.library[i] = some x → x.withdrawal = none →
    ∃ t : State, exec (.programWithdraw m p e) s = .next (t.answered m .programWithdraw .ok .nothing) ∧
      t.library = s.library.set i (some { x with withdrawal := some ⟨s.floorTime, m.sender⟩ }) ∧
      (∀ l ∈ t.lots, ∀ (w : Wait) (h : HandlerId) (r : Resolved), l.state = .reserved w h r → r.program ≠ ⟨p, e⟩) ∧
      (∀ u : TesterId, t.testers[u].stagedHolds ⟨p, e⟩ = false) ∧
      (∀ u : TesterId, ∀ a, t.testers[u].active = some a → a.program = ⟨p, e⟩ → a.withdrawn = true) ∧
      (∀ (u : TesterId) (h : HandlerId) (k : Slot) (l : Lot), s.testers[u].activeHolds ⟨p, e⟩ = true →
        s.testers[u].docked = some h → s.handlers[h].cell.current = some k → s.lot? k = some l →
        l.runInProgress.any (fun r => r.program = ⟨p, e⟩) = true →
        ∃ l', t.lot? k = some l' ∧ l'.hasHold .programWithdrawn = true ∧ l'.state.name = .draining) ∧
      t.products = s.products ∧ t.settings = s.settings ∧ t.guards = s.guards ∧ t.stampCounter = s.stampCounter ∧
      t.waitingCounter = s.waitingCounter ∧ t.releaseQueue = s.releaseQueue ∧ t.floorTime = s.floorTime ∧ t.link = s.taken.link

/-- LOT_END: the step closes with its missing count and final yield, COUNT_SHORT and NO_GOOD_UNITS are placed as the close
finds, the run ends; a lot with holds becomes HELD, one without goes on to its next step's queue or becomes COMPLETE; then
the lot leaves its handler. -/
def Obligations.LotEnd : Prop :=
  ∀ (m : Msg) (lot : Text) (h : HandlerId) (l : Lot) (s : State), s.takes m .lotEnd anyPayload = true → s.SlotsInOrder →
    lotIdOk lot = true → s.lotNamed? lot = some l → s.stations[m.sender].bound = some h →
    s.handlers[h].cell.current = some l.slot →
    let missing := l.cur.quantityIn - l.cur.tested
    let short := (s.stepOf l).tolerance < missing ∧ l.hasHold .countShort = false
    let noGood := l.cur.good = 0 ∧ l.hasHold .noGoodUnits = false
    let placed : List HoldReason := (if short then [.countShort] else []) ++ (if noGood then [.noGoodUnits] else [])
    let holds1 := if short then insertHold ⟨.countShort, s.floorTime, none, 0⟩ l.holds else l.holds
    let holds2 := if noGood then insertHold ⟨.noGoodUnits, s.floorTime, none, 0⟩ holds1 else holds1
    let yield := if l.cur.tested = 0 then none else some (l.cur.good * 1000 / l.cur.tested)
    let closed : StepRecord :=
      { l.cur with missing := some missing, closeTime := some s.floorTime, finalYield := yield
                   runs := endRun s.floorTime l.cur.runs }
    let marked : State := if placed = [] then s.taken else s.taken.markRoles [.quality, .floor] .holdPlaced 0
    let put (x : Lot) : State := { marked with lots := s.lots.map (fun y => if y.slot = l.slot then x else y) }
    let ends (u : State) (name : LotStateName) : Prop :=
      exec (.lotEnd m lot) s = .next ((u.leaveHandler h).answered m .lotEnd .ok (.lotEnded name missing yield placed))
    (holds2 ≠ [] → ends (put { l with state := .held, holds := holds2, cur := closed }) .held) ∧
    (holds2 = [] → l.past.length + 1 < (s.routeOf l).length →
      let next : Lot := { l with past := l.past ++ [closed], cur := StepRecord.opened (min l.cur.good 999999) }
      let stamp := min 4294967295 (s.stampCounter + 1)
      ends { put { next with state := .queued { stamp := stamp, age := 0, left := freshCountdown (s.stepOf next) } } with
        stampCounter := stamp } .queued) ∧
    (holds2 = [] → (s.routeOf l).length ≤ l.past.length + 1 →
      ends ((put { l with cur := closed, state := .complete none }).markRoles
        (if l.deviationUsed || l.waiver then [.quality, .dock, .engineering] else [.quality, .dock]) .lotComplete 0) .complete)

/-! ### Holds and dispositions -/

/-- Placing a reason on a lot: one already present, or on a SCRAPPED lot, changes nothing; otherwise the entry joins the
hold set in the order of the reason list, HOLD_PLACED is marked, and the lot moves: QUEUED, RESERVED, COMPLETE and RELEASED
become HELD, RUNNING becomes DRAINING with the reason as its cause and its cell with it, DRAINING and HELD stay.  That
the stall countdown, which stops as a drain starts, keeps the value it stood at is the model's reading (assumption 12). -/
def Obligations.PlacingAReason : Prop :=
  (∀ (e : HoldEntry) (es : List HoldEntry), es.Pairwise (fun a b => a.reason.code < b.reason.code) →
    (∀ x ∈ es, x.reason ≠ e.reason) →
    (insertHold e es).Pairwise (fun a b => a.reason.code < b.reason.code) ∧ (∀ x, x ∈ insertHold e es ↔ x = e ∨ x ∈ es)) ∧
  (∀ c : Cell, c.drain.current = c.current ∧ c.drain.reserved = c.reserved ∧ (c.name = .running → c.drain.name = .draining)) ∧
  ∀ (s : State) (k : Slot) (l : Lot) (r : HoldReason) (setter : Option StationId) (groups : BitVec 4), s.SlotsInOrder →
    s.lot? k = some l →
    let held : Lot := { l with holds := insertHold ⟨r, s.floorTime, setter, groups⟩ l.holds }
    (l.hasHold r = true ∨ l.state = .scrapped → s.placeHold k r setter groups = (s, false)) ∧
    (l.hasHold r = false →
      (∀ w, l.state = .queued w → s.placeHold k r setter groups = (s.holdMarked.putLot { held with state := .held }, true)) ∧
      (∀ w h q, l.state = .reserved w h q →
        s.placeHold k r setter groups =
          (({ s.holdMarked.putLot { held with state := .held } with
              handlers := s.handlers.set h s.handlers[h].dropReserved
              deviations := (s.updPending q.deviation (fun n => n - 1)).deviations }).markBound h .reservationCancelled
            (unitBit h), true)) ∧
      (∀ h q, l.state = .running h q →
        s.placeHold k r setter groups =
          (({ s.holdMarked.putLot { held with state := .draining h q r } with
              handlers := s.handlers.set h
                { s.handlers[h] with cell := s.handlers[h].cell.drain, stalled := false } }).markBound h .stop (unitBit h), true)) ∧
      (l.state.name = .draining ∨ l.state = .held → s.placeHold k r setter groups = (s.holdMarked.putLot held, true)) ∧
      (∀ w, l.state = .complete w →
        s.placeHold k r setter groups = (s.holdMarked.putLot { held with state := .held, endorsements := [] }, true)) ∧
      (l.state = .released →
        s.placeHold k r setter groups =
          (({ s.holdMarked.putLot { held with state := .held, endorsements := [] } with
              releaseQueue := s.releaseQueue.filter (fun x => x.slot ≠ k) }).offerPlace, true)))

/-- LOT_HOLD: a FLOOR, QUALITY or ENGINEERING station for any lot, or a CELL station for its handler's current or reserved
lot, places MANUAL with itself as setter; NOT_PERMITTED, WRONG_STATE for a SCRAPPED lot and DUPLICATE are answered in that
order. -/
def Obligations.LotHold : Prop :=
  ∀ (m : Msg) (lot : Text) (l : Lot) (s : State), s.takes m .lotHold anyPayload = true → lotIdOk lot = true →
    s.lotNamed? lot = some l →
    let allowed : Prop := (s.rolesOf m.sender).hasAny [.floor, .quality, .engineering] = true ∨
      ((s.rolesOf m.sender).has .cell = true ∧ ∃ h : HandlerId, s.stations[m.sender].bound = some h ∧
        (s.handlers[h].cell.current = some l.slot ∨ s.handlers[h].cell.reserved = some l.slot))
    (allowed → l.state ≠ .scrapped → l.hasHold .manual = false →
      let t := (s.taken.placeHold l.slot .manual (some m.sender) 0).1
      exec (.lotHold m lot) s = .next (t.answered m .lotHold .ok (.lotState (t.stateNameOf l.slot)))) ∧
    (¬ allowed → exec (.lotHold m lot) s = .next (s.taken.answered m .lotHold .notPermitted .nothing)) ∧
    (allowed → l.state = .scrapped → exec (.lotHold m lot) s = .next (s.taken.answered m .lotHold .wrongState .nothing)) ∧
    (allowed → l.state ≠ .scrapped → l.hasHold .manual = true →
      exec (.lotHold m lot) s = .next (s.taken.answered m .lotHold .duplicate .nothing))

/-- CONTINUE clears the one reason named, sets the waiver flag unless it was MANUAL, QUEUE_TIME or INTERRUPTED, and disarms
the cumulative check for YIELD_LOW.  A lot with reasons left stays HELD; otherwise it goes back to its queue from an open
step with fewer than 4 runs, gets RUN_LIMIT from one with 4, and goes on from a closed step to its next queue or to
COMPLETE. -/
def Obligations.Continue : Prop :=
  ∀ (m : Msg) (lot : Text) (l : Lot) (e : HoldEntry) (r : HoldReason) (s : State), s.takes m .lotDispose anyPayload = true →
    s.SlotsInOrder → lotIdOk lot = true → s.lotNamed? lot = some l → l.state = .held → l.holdOf? r = some e →
    let allowed : Prop := (s.rolesOf m.sender).has .quality = true ∨ (r = .manual ∧ e.setter = some m.sender)
    let x : Lot :=
      { l with
        holds := l.holds.filter (fun y => y.reason ≠ r)
        waiver := l.waiver || !(r = .manual || r = .queueTime || r = .interrupted)
        cur := { l.cur with armed := l.cur.armed && r ≠ .yieldLow } }
    let does (u : State) (name : LotStateName) (left : List HoldReason) (stamp : Option Nat) : Prop :=
      exec (.lotDisposeContinue m lot r.code) s = .next (u.answered m .lotDispose .ok (.disposed name left x.waiver stamp))
    (¬ allowed → exec (.lotDisposeContinue m lot r.code) s = .next (s.taken.answered m .lotDispose .notPermitted .nothing)) ∧
    (allowed → r = .runLimit →
      exec (.lotDisposeContinue m lot r.code) s = .next (s.taken.answered m .lotDispose .wrongState .nothing)) ∧
    (allowed → r ≠ .runLimit → x.holds ≠ [] → does (s.taken.putLot x) .held (x.holds.map (·.reason)) none) ∧
    (allowed → r ≠ .runLimit → x.holds = [] → l.cur.closeTime = none → l.cur.runs.length < 4 →
      does (s.taken.putQueued x) .queued [] (some (min 4294967295 (s.stampCounter + 1)))) ∧
    (allowed → r ≠ .runLimit → x.holds = [] → l.cur.closeTime = none → 4 ≤ l.cur.runs.length →
      does (s.taken.holdMarked.putLot { x with holds := [⟨.runLimit, s.floorTime, none, 0⟩] }) .held [.runLimit] none) ∧
    (allowed → r ≠ .runLimit → x.holds = [] → l.cur.closeTime ≠ none → l.past.length + 1 < (s.routeOf l).length →
      does (s.taken.putQueued { x with past := l.past ++ [x.cur], cur := StepRecord.opened (min l.cur.good 999999) }) .queued []
        (some (min 4294967295 (s.stampCounter + 1)))) ∧
    (allowed → r ≠ .runLimit → x.holds = [] → l.cur.closeTime ≠ none → (s.routeOf l).length ≤ l.past.length + 1 →
      does ((s.taken.putLot { x with state := .complete none }).markRoles
        (if l.deviationUsed || x.waiver then [.quality, .dock, .engineering] else [.quality, .dock]) .lotComplete 0) .complete []
        none)

/-- RESCREEN of an open step rescreened fewer than 3 times empties the hold set, opens the step afresh with its quantity in
and one rescreen more, and queues the lot; SCRAP empties the hold set and leaves the lot SCRAPPED with its records.  Each is
for the roles its rule names. -/
def Obligations.RescreenAndScrap : Prop :=
  ∀ (m : Msg) (lot : Text) (l : Lot) (e : HoldEntry) (r : HoldReason) (s : State), s.takes m .lotDispose anyPayload = true →
    s.SlotsInOrder → lotIdOk lot = true → s.lotNamed? lot = some l → l.state = .held → l.holdOf? r = some e →
    let opens := l.cur.closeTime = none ∧ l.cur.rescreens < 3
    ((s.rolesOf m.sender).hasAny [.quality, .engineering] = true → opens →
      exec (.lotDisposeRescreen m lot r.code) s = .next
        ((s.taken.putQueued
          { l with holds := [], cur := { StepRecord.opened l.cur.quantityIn with rescreens := l.cur.rescreens + 1 } }).answered
          m .lotDispose .ok (.disposed .queued [] l.waiver (some (min 4294967295 (s.stampCounter + 1)))))) ∧
    ((s.rolesOf m.sender).hasAny [.quality, .engineering] = true → ¬ opens →
      exec (.lotDisposeRescreen m lot r.code) s = .next (s.taken.answered m .lotDispose .wrongState .nothing)) ∧
    ((s.rolesOf m.sender).hasAny [.quality, .engineering] = false →
      exec (.lotDisposeRescreen m lot r.code) s = .next (s.taken.answered m .lotDispose .notPermitted .nothing)) ∧
    ((s.rolesOf m.sender).has .quality = true →
      exec (.lotDisposeScrap m lot r.code) s = .next
        ((s.taken.putLot { l with holds := [], state := .scrapped }).answered m .lotDispose .ok
          (.disposed .scrapped [] l.waiver none))) ∧
    ((s.rolesOf m.sender).has .quality = false →
      exec (.lotDisposeScrap m lot r.code) s = .next (s.taken.answered m .lotDispose .notPermitted .nothing))

/-- DRAINED: the DRAINING lot becomes HELD with its step open, its run ended and its holds kept, and leaves its handler; a
RUNNING lot is answered WRONG_STATE.  A handler that a lot leaves goes to IDLE, or to PREPARING with its reserved lot's
setup applied and the ready conditions checked; its guard's run ends.  That the stall countdown, which stops with the run, keeps
the value it stood at is the model's reading (assumption 12). -/
def Obligations.Drained : Prop :=
  (∀ (m : Msg) (lot : Text) (h : HandlerId) (l : Lot) (s : State), s.takes m .drained anyPayload = true → s.SlotsInOrder →
    lotIdOk lot = true → s.lotNamed? lot = some l → s.stations[m.sender].bound = some h →
    s.handlers[h].cell.current = some l.slot →
    (l.state.name = .draining →
      exec (.drained m lot) s = .next
        (((s.taken.putLot { l with state := .held, cur := { l.cur with runs := endRun s.floorTime l.cur.runs } }).leaveHandler
          h).answered m .drained .ok (.drained .held l.cur.tested l.cur.good l.holds.length))) ∧
    (l.state.name ≠ .draining →
      exec (.drained m lot) s = .next (s.taken.answered m .drained .wrongState .nothing))) ∧
  (∀ (s : State) (h : HandlerId),
    (s.handlers[h].cell.reserved = none →
      s.leaveHandler h = { s with
        guards := s.guards.set h none
        handlers := s.handlers.set h { s.handlers[h] with cell := .idle, requiredKit := none, stalled := false } }) ∧
    (∀ k, s.handlers[h].cell.reserved = some k →
      s.leaveHandler h = (({ s with
        guards := s.guards.set h none
        handlers := s.handlers.set h { s.handlers[h] with cell := .preparing k, stalled := false } }).applySetup h k).readyCheck
          h))

/-! ### Dispatch -/

/-- The selection for a handler: a lot is eligible exactly when it is QUEUED without holds, its class is in the capability,
its resolved program is RELEASED, its deviation entry has a use left, and a site is enabled.  Of the eligible lots the one
with the lowest stamp of the overdue group is chosen, or with no overdue lot the one with the lowest score, equal scores
going to the lower stamp and then the lower slot; nothing is chosen exactly when no lot is eligible.  The changeover is the
sum of the kit term (0 with the step's kit installed), the temperature term (0 at the step's setpoint, else the distance
from the current setpoint, or from 25, times the ramp rate, plus the soak) and the program term (0 with the resolved program
at hand on the docked tester, else its load estimate); the resolved program takes its revision from the lowest-numbered
deviation entry that names the lot's product, step and route revision. -/
def Obligations.Selection : Prop :=
  (∀ (s : State) (h : HandlerId),
    (∀ l, s.eligible h l = true ↔
      (∃ w, l.state = .queued w) ∧ l.holds = [] ∧
      (∃ c, s.handlers[h].config = some c ∧ c.capability.getLsbD (capabilityBit (classOf (s.stepOf l).setpoint)) = true ∧
        c.sitesEnabled ≠ 0) ∧
      s.isReleased (s.resolve l).program = true ∧
      (∀ d : DevId, (s.resolve l).deviation = some d → ∃ e, s.deviations[d] = some e ∧ e.pending < e.remaining)) ∧
    (s.select h = none ↔ ∀ l ∈ s.lots, s.eligible h l = false) ∧
    (∀ l c, s.select h = some (l, c) →
      l ∈ s.lots ∧ s.eligible h l = true ∧
      (c = .overdue ∧ s.overdue l = true ∧
          (∀ x ∈ s.lots, s.eligible h x = true → s.overdue x = true →
            l.stamp < x.stamp ∨ (l.stamp = x.stamp ∧ l.slot ≤ x.slot)) ∨
        c = .byScore (s.changeover h l) (s.score h l) ∧
          (∀ x ∈ s.lots, s.eligible h x = true →
            s.overdue x = false ∧
            (s.score h l < s.score h x ∨
              (s.score h l = s.score h x ∧ (l.stamp < x.stamp ∨ (l.stamp = x.stamp ∧ l.slot ≤ x.slot)))))))) ∧
  (∀ (s : State) (h : HandlerId) (l : Lot),
    let st := s.stepOf l
    let from' : Int := s.handlers[h].setpoint.getD 25
    s.changeover h l =
      (if s.handlers[h].kit = some st.kit then 0 else s.settings.kitTerm) +
      (if s.handlers[h].setpoint = some st.setpoint then 0
        else (st.setpoint - from').natAbs * s.handlers[h].rampRate + st.soak) +
      (if s.handlers[h].docked.any (fun u : TesterId => s.testers[u].atHand (s.resolve l).program) then 0
        else s.estimateOf (s.resolve l).program) ∧
    ((∀ (d : DevId) e, s.deviations[d] = some e →
        ¬ (e.product = l.product ∧ e.step = l.past.length + 1 ∧ e.fromRevision = st.program.revision)) →
      s.resolve l = ⟨st.program, none⟩) ∧
    (∀ (d : DevId) e, s.deviations[d] = some e → e.product = l.product → e.step = l.past.length + 1 →
      e.fromRevision = st.program.revision →
      (∀ j : DevId, j < d → ∀ x, s.deviations[j] = some x →
        ¬ (x.product = l.product ∧ x.step = l.past.length + 1 ∧ x.fromRevision = st.program.revision)) →
      s.resolve l = ⟨⟨st.program.id, e.substitute⟩, some d⟩))

/-- The dispatch queue of a class holds the QUEUED lots whose current step is of the class and no others, each as often as
the lot table does, ordered by priority class, then queue stamp, then slot; the release-waiting list holds the COMPLETE lots
with a waiting stamp, ordered by stamp, then slot. -/
def Obligations.QueueOrders : Prop :=
  ∀ s : State,
    (∀ c : TempClass,
      (s.queue c).Perm (s.lots.filter (fun l => l.state.name = .queued && classOf (s.stepOf l).setpoint = c)) ∧
      (s.queue c).Pairwise (fun a b => a.priority < b.priority ∨ (a.priority = b.priority ∧
        (a.stamp < b.stamp ∨ (a.stamp = b.stamp ∧ a.slot ≤ b.slot))))) ∧
    (∀ t : Int, classOf t = if t ≤ 10 then .cold else if t ≤ 39 then .room else .hot) ∧
    s.waitingList.Perm (s.lots.filter (fun l => l.state.waiting?.isSome)) ∧
    s.waitingList.Pairwise (fun a b => a.waitingStamp < b.waitingStamp ∨ (a.waitingStamp = b.waitingStamp ∧ a.slot ≤ b.slot))

/-- The age credit is min(a, 86,400) × G ÷ 8, truncated, from 0 to 162,000; the score is class offset plus changeover less
age credit, with offsets 0, 3600, 7200 and 14,400; with every value within its range it lies from −162,000 to 40,800; a gain
of 0 earns no credit and a gain of 8 one second for each second waited. -/
def Obligations.Score : Prop :=
  ∀ (s : State) (h : HandlerId) (l : Lot),
    let offset : Nat → Int := fun p => if p = 0 then 0 else if p = 1 then 3600 else if p = 2 then 7200 else 14400
    s.ageCredit l = min l.age 86400 * s.settings.agingGain / 8 ∧
    (l.priority ≤ 3 → s.score h l = offset l.priority + (s.changeover h l : Int) - (s.ageCredit l : Int)) ∧
    (s.settings.agingGain ≤ 15 → s.ageCredit l ≤ 162000) ∧
    (s.settings.agingGain ≤ 15 → s.settings.kitTerm ≤ 7200 → s.handlers[h].rampRate ≤ 60 →
      (∀ c, s.handlers[h].setpoint = some c → -55 ≤ c ∧ c ≤ 175) → -55 ≤ (s.stepOf l).setpoint → (s.stepOf l).setpoint ≤ 175 →
      (s.stepOf l).soak ≤ 3600 → s.estimateOf (s.resolve l).program ≤ 1800 → l.priority ≤ 3 →
      -162000 ≤ s.score h l ∧ s.score h l ≤ 40800) ∧
    (s.settings.agingGain = 0 → l.priority ≤ 3 → s.score h l = offset l.priority + (s.changeover h l : Int)) ∧
    (s.settings.agingGain = 8 → s.ageCredit l = min l.age 86400)

/-- CALL_WORK for the sender's handler: LOCKED under a maintenance lock, WRONG_STATE when not IDLE with a tester docked,
EMPTY when no lot is eligible; otherwise the lot chosen is reserved, and the answer names it, its step, the resolved
program, how it was chosen and the cell state. -/
def Obligations.CallWork : Prop :=
  ∀ (m : Msg) (h : HandlerId) (s : State), s.takes m .callWork anyPayload = true → s.stations[m.sender].bound = some h →
    (s.handlers[h].lock ≠ none → exec (.callWork m) s = .next (s.taken.answered m .callWork .locked .nothing)) ∧
    (s.handlers[h].lock = none → s.handlers[h].cell ≠ .idle ∨ s.handlers[h].docked = none →
      exec (.callWork m) s = .next (s.taken.answered m .callWork .wrongState .nothing)) ∧
    (s.handlers[h].lock = none → s.handlers[h].cell = .idle → s.handlers[h].docked ≠ none → s.select h = none →
      exec (.callWork m) s = .next (s.taken.answered m .callWork .empty .nothing)) ∧
    (s.handlers[h].lock = none → s.handlers[h].cell = .idle → s.handlers[h].docked ≠ none → ∀ l c, s.select h = some (l, c) →
      exec (.callWork m) s = .next
        ((s.taken.reserve h l).answered m .callWork .ok
          (.workChosen l.id l.slot (l.past.length + 1) (s.stepOf l).setpoint (s.stepOf l).kit (s.resolve l) c
            (s.taken.reserve h l).handlers[h].cell.name)))

/-- A reservation: the lot becomes RESERVED with its resolved program and its queue fields kept, the deviation entry's
pending count rises, the handler holds it as its reserved lot, staging begins on the docked tester, and on an IDLE handler
the setup applies and the ready conditions are checked.  A cancellation undoes it: the lot returns to its queue as it stood,
or is HELD for a hold, pending falls, the cell goes to IDLE without required kit or stays with its current lot, and
RESERVATION_CANCELLED is marked. -/
def Obligations.ReservationMadeAndCancelled : Prop :=
  (∀ (s : State) (h : HandlerId) (l : Lot) (w : Wait) (u : TesterId), s.SlotsInOrder → s.lot? l.slot = some l →
    l.state = .queued w → s.handlers[h].docked = some u →
    let base (c : Cell) : State :=
      { s.putLot { l with state := .reserved w h (s.resolve l) } with
        deviations := match (s.resolve l).deviation with
          | none => s.deviations
          | some d => s.deviations.set d (s.deviations[d].map (fun e => { e with pending := e.pending + 1 }))
        handlers := s.handlers.set h { s.handlers[h] with cell := c } }
    (s.handlers[h].cell = .idle →
      s.reserve h l =
        (((base (.preparing l.slot)).beginStaging u (s.resolve l).program).applySetup h l.slot).readyCheck h) ∧
    (∀ k, s.handlers[h].cell = .running k none →
      s.reserve h l = (base (.running k (some l.slot))).beginStaging u (s.resolve l).program)) ∧
  (∀ (s : State) (h : HandlerId) (l : Lot) (w : Wait) (r : Resolved) (held : Bool), s.SlotsInOrder → s.lot? l.slot = some l →
    l.state = .reserved w h r →
    let undone (c : Cell) (kit : Option Nat) : State :=
      { s.putLot { l with state := if held then .held else .queued w } with
        deviations := match r.deviation with
          | none => s.deviations
          | some d => s.deviations.set d (s.deviations[d].map (fun e => { e with pending := e.pending - 1 }))
        handlers := s.handlers.set h { s.handlers[h] with cell := c, requiredKit := kit } }
    (s.handlers[h].cell = .preparing l.slot ∨ s.handlers[h].cell = .ready l.slot →
      s.cancelReservation l.slot held = (undone .idle none).markBound h .reservationCancelled (unitBit h)) ∧
    (∀ k, s.handlers[h].cell = .running k (some l.slot) →
      s.cancelReservation l.slot held =
        (undone (.running k none) s.handlers[h].requiredKit).markBound h .reservationCancelled (unitBit h)) ∧
    (∀ k, s.handlers[h].cell = .draining k (some l.slot) →
      s.cancelReservation l.slot held =
        (undone (.draining k none) s.handlers[h].requiredKit).markBound h .reservationCancelled (unitBit h)))

/-- The setup of a reserved lot: the target becomes the step's setpoint and soak and the required kit its kit; a handler
that does not stand at the setpoint ramps; SETPOINT_CHANGE is marked but where the handler stands at the setpoint and was
not heading elsewhere, and KIT_CHANGE where another kit or none is installed; nothing else changes, so that a soak countdown
that a new target stops keeps the value it stood at, which is the model's reading (assumption 12).  Staging for a
reservation: nothing where the program is at hand; a load of it in flight is adopted with attempt count 1, its deadline
running on; a load of another program defers it; an EMPTY slot, another program LOADED, or a FAULT has its load started. -/
def Obligations.SetupAndStaging : Prop :=
  (∀ (s : State) (h : HandlerId) (k : Slot) (l : Lot), s.lot? k = some l →
    let st := s.stepOf l
    let at' : Prop := s.handlers[h].setpoint = some st.setpoint
    let change : Prop := ¬ at' ∨ ∃ o, s.handlers[h].target = some o ∧ o.setpoint ≠ st.setpoint
    let set (thermal : Thermal) : State :=
      { s with
        handlers := s.handlers.set h
          { s.handlers[h] with target := some ⟨st.setpoint, st.soak⟩, requiredKit := some st.kit, thermal := thermal } }
    let marks (u : State) : State := if s.handlers[h].kit = some st.kit then u else u.markBound h .kitChange (unitBit h)
    (¬ at' → s.applySetup h k = marks ((set .ramping).markBound h .setpointChange (unitBit h))) ∧
    (at' → change → s.applySetup h k = marks ((set s.handlers[h].thermal).markBound h .setpointChange (unitBit h))) ∧
    (at' → ¬ change → s.applySetup h k = marks (set s.handlers[h].thermal))) ∧
  (∀ (s : State) (u : TesterId) (p : Program),
    (s.testers[u].atHand p = true → s.beginStaging u p = s) ∧
    (s.testers[u].atHand p = false →
      (s.testers[u].staged = none → s.beginStaging u p = s.startLoad u p 1) ∧
      (∀ g, s.testers[u].staged = some g →
        (g.state ≠ .loading → s.beginStaging u p = s.startLoad u p 1) ∧
        (g.state = .loading → g.program ≠ p → s.beginStaging u p = s) ∧
        (g.state = .loading → g.program = p →
          s.beginStaging u p =
            { s with testers := s.testers.set u { s.testers[u] with staged := some { g with attempts := 1 } } }))) ∧
    (s.testers[u].atHand p = true ↔
      (∃ a, s.testers[u].active = some a ∧ a.program = p ∧ a.withdrawn = false) ∨
      (∃ g, s.testers[u].staged = some g ∧ g.state = .loaded ∧ g.program = p)))

/-- LOT_BEGIN of the reserved lot of a READY handler: the program is swapped in where it is not active, the deviation entry
is used once and emptied by its last use, a run is opened, the lot becomes RUNNING without queue fields, the handler RUNNING
with its stall countdown started, and the guard begins a run.  A HELD lot is answered LOT_HELD, a handler that is not READY
WRONG_STATE, another lot MISMATCH. -/
def Obligations.LotBegin : Prop :=
  ∀ (m : Msg) (lot : Text) (h : HandlerId) (l : Lot) (s : State), s.takes m .lotBegin anyPayload = true → s.SlotsInOrder →
    lotIdOk lot = true → s.lotNamed? lot = some l → s.stations[m.sender].bound = some h →
    (l.state = .held → exec (.lotBegin m lot) s = .next (s.taken.answered m .lotBegin .lotHeld .nothing)) ∧
    (l.state ≠ .held → s.handlers[h].cell.name ≠ .ready →
      exec (.lotBegin m lot) s = .next (s.taken.answered m .lotBegin .wrongState .nothing)) ∧
    (∀ k, l.state ≠ .held → s.handlers[h].cell = .ready k → k ≠ l.slot →
      exec (.lotBegin m lot) s = .next (s.taken.answered m .lotBegin .mismatch .nothing)) ∧
    (∀ (w : Wait) (g : HandlerId) (r : Resolved) (u : TesterId) (c : HandlerConfig), l.state = .reserved w g r →
      s.handlers[h].cell = .ready l.slot → s.handlers[h].docked = some u → s.handlers[h].config = some c →
      let run : RunEntry :=
        { handler := h, tester := u, program := r.program, deviation := r.deviation, beginTime := s.floorTime, endTime := none
          gapTotal := 0 }
      exec (.lotBegin m lot) s = .next
        ({ s.taken.putLot
              { l with
                state := .running h r
                deviationUsed := l.deviationUsed || r.deviation.isSome
                cur := { l.cur with runs := l.cur.runs ++ [run] } } with
            testers := s.testers.set u
              (if s.testers[u].active.map ActiveSlot.program = some r.program then s.testers[u]
               else match s.testers[u].staged with
                 | some x => { s.testers[u] with active := some ⟨x.program, x.expected, false⟩, staged := none }
                 | none => s.testers[u])
            deviations := match r.deviation with
              | none => s.deviations
              | some d => s.deviations.set d (s.deviations[d].bind (fun e =>
                  if e.remaining ≤ 1 then none
                  else some { e with remaining := e.remaining - 1, pending := e.pending - 1, hits := min 255 (e.hits + 1) }))
            handlers := s.handlers.set h
              { s.handlers[h] with cell := .running l.slot none, stallLeft := c.stallTime, stalled := false }
            guards := s.guards.set h (some
              { lot := l.slot, run := l.cur.runs.length + 1, lastIndex := none, ring := []
                sites := Vector.replicate 8 ⟨0, 0⟩ }) }.answered m .lotBegin .ok
          (.lotBegun (l.cur.runs.length + 1) s.floorTime r.program r.deviation)))

/-- Requests that store a setting: LOT_PRIORITY gives a QUEUED or RESERVED lot its class and keeps its stamp;
DISPATCH_CONFIG stores its values lowered to 7200, 15 and 10,080, or reads the settings; SITE_ENABLE enables a site of a
configured handler and zeroes its counts in the run. -/
def Obligations.SettingsRequests : Prop :=
  ∀ (m : Msg) (s : State),
    (∀ lot l p, s.takes m .lotPriority anyPayload = true → s.SlotsInOrder → lotIdOk lot = true → s.lotNamed? lot = some l →
      p ≤ 3 →
      let t : State := s.taken.putLot { l with priority := p }
      (∀ w, l.state = .queued w → exec (.lotPriority m lot p) s = .next
        (t.answered m .lotPriority .ok (.priority .queued (some (t.queuePosition { l with priority := p }))))) ∧
      (∀ w h r, l.state = .reserved w h r → exec (.lotPriority m lot p) s = .next
        (t.answered m .lotPriority .ok (.priority .reserved none))) ∧
      (l.state.name ≠ .queued → l.state.name ≠ .reserved → exec (.lotPriority m lot p) s = .next
        (s.taken.answered m .lotPriority .wrongState .nothing))) ∧
    (∀ a b c, s.takes m .dispatchConfig anyPayload = true →
      let x : Settings := ⟨min a 7200, min b 15, min c 10080⟩
      (a ≤ 65535 → b ≤ 255 → c ≤ 65535 →
        exec (.dispatchConfig m (some ⟨a, b, c⟩)) s = .next
          ({ s.taken with settings := x }.answered m .dispatchConfig .ok (.settings x))) ∧
      (65535 < a ∨ 255 < b ∨ 65535 < c →
        exec (.dispatchConfig m (some ⟨a, b, c⟩)) s = .next (s.taken.answered m .dispatchConfig .badFormat .nothing))) ∧
    (s.takes m .dispatchConfig anyPayload = true →
      exec (.dispatchConfig m none) s = .next (s.taken.answered m .dispatchConfig .ok (.settings s.settings))) ∧
    (∀ (h : HandlerId) (i : SiteIx) (c : HandlerConfig), s.takes m .siteEnable anyPayload = true →
      (s.rolesOf m.sender).has .engineering = true ∧ s.handlers[h].lock = none ∨ s.handlers[h].lock = some m.sender →
      s.handlers[h].config = some c → number i ≤ c.siteCount →
      let x : BitVec 8 := c.sitesEnabled ||| BitVec.ofNat 8 (2 ^ i.val)
      exec (.siteEnable m (number h) (number i)) s = .next
        ({ s.taken with
            handlers := s.handlers.set h { s.handlers[h] with config := some { c with sitesEnabled := x } }
            guards := s.guards.set h (s.guards[h].map (fun g : GuardRun => { g with sites := g.sites.set i ⟨0, 0⟩ })) }.answered
          m .siteEnable .ok (.siteEnabled x (c.sitesEnabled.getLsbD i.val))))

/-! ### Handlers and testers -/

/-- HANDLER_CONFIG stores the configuration with ramp rate, stall time and lookahead brought into range and every site
enabled, and answers BAD_FORMAT to a field outside the range it carries; HANDLER_ONLINE takes a configured OFFLINE handler to IDLE; HANDLER_OFFLINE takes one with no lot on it to OFFLINE,
forgetting its temperature, with its reservation cancelled first. -/
def Obligations.HandlerSetup : Prop :=
  ∀ (m : Msg) (h : HandlerId) (s : State),
    (∀ (capability : Byte) sites ramp stall lookahead, s.takes m .handlerConfig anyPayload = true → 1 ≤ sites → sites ≤ 8 →
      capability.toNat < 8 → ramp ≤ 255 → stall ≤ 65535 → lookahead ≤ 65535 →
      (s.rolesOf m.sender).hasAny [.supervisor, .engineering] = true ∧ s.handlers[h].lock = none ∨
        s.handlers[h].lock = some m.sender →
      s.handlers[h].cell = .offline ∨ s.handlers[h].cell = .idle →
      let c : HandlerConfig :=
        { capability := capability.setWidth 3, siteCount := sites, sitesEnabled := BitVec.ofNat 8 (2 ^ sites - 1)
          rampRate := max 1 (min 60 ramp), stallTime := max 10 (min 3600 stall), lookahead := min 9999 lookahead }
      exec (.handlerConfig m (number h) capability sites ramp stall lookahead) s = .next
        ({ s.taken with handlers := s.handlers.set h { s.handlers[h] with config := some c } }.answered m .handlerConfig .ok
          (.handlerConfig c))) ∧
    (∀ (capability : Byte) sites ramp stall lookahead, s.takes m .handlerConfig anyPayload = true →
      sites = 0 ∨ 8 < sites ∨ 8 ≤ capability.toNat ∨ 255 < ramp ∨ 65535 < stall ∨ 65535 < lookahead →
      exec (.handlerConfig m (number h) capability sites ramp stall lookahead) s = .next
        (s.taken.answered m .handlerConfig .badFormat .nothing)) ∧
    (s.takes m .handlerOnline anyPayload = true → s.stations[m.sender].bound = some h → s.handlers[h].config ≠ none →
      s.handlers[h].cell = .offline →
      exec (.handlerOnline m) s = .next
        ({ s.taken with
            handlers := s.handlers.set h
              { s.handlers[h] with cell := .idle, thermal := .unknown, setpoint := none, target := none, stalled := false } }.answered
          m .handlerOnline .ok .nothing)) ∧
    (∀ named : Option Nat, s.takes m .handlerOffline anyPayload = true →
      (named = none ∧ s.stations[m.sender].bound = some h ∧ (s.rolesOf m.sender).has .cell = true ∨
        named = some (number h) ∧ (s.rolesOf m.sender).hasAny [.floor, .supervisor] = true) →
      let off (u : State) : State :=
        { u with handlers := u.handlers.set h
                  { u.handlers[h] with
                    cell := .offline, thermal := .unknown, setpoint := none, target := none, soakLeft := 0
                    requiredKit := none } }
      (s.handlers[h].cell = .idle →
        exec (.handlerOffline m named) s = .next ((off s.taken).answered m .handlerOffline .ok .nothing)) ∧
      (∀ k, s.handlers[h].cell = .preparing k ∨ s.handlers[h].cell = .ready k →
        exec (.handlerOffline m named) s = .next
          ((off (s.taken.cancelReservation k false)).answered m .handlerOffline .ok .nothing)) ∧
      (s.handlers[h].cell = .offline →
        exec (.handlerOffline m named) s = .next (s.taken.answered m .handlerOffline .wrongState .nothing)) ∧
      (s.handlers[h].cell.name = .running ∨ s.handlers[h].cell.name = .draining →
        exec (.handlerOffline m named) s = .next (s.taken.answered m .handlerOffline .busy .nothing)))

/-- DOCK and UNDOCK write both records and nothing else; HANDLER_LOCK gives the lock of a handler out of work to the sender;
HANDLER_UNLOCK frees it for its holder and for station 1.  A handler locked by another station refuses them with LOCKED, and
one that works refuses DOCK, UNDOCK and HANDLER_LOCK with BUSY. -/
def Obligations.DockAndLock : Prop :=
  ∀ (m : Msg) (h : HandlerId) (u : TesterId) (s : State),
    let serves : Prop := (s.rolesOf m.sender).hasAny [.engineering, .supervisor] = true ∧ s.handlers[h].lock = none ∨
      s.handlers[h].lock = some m.sender
    let out : Prop := s.handlers[h].cell = .offline ∨ s.handlers[h].cell = .idle
    (s.takes m .dock anyPayload = true → serves → s.handlers[h].config ≠ none → s.testers[u].configured = true →
      (out → s.handlers[h].docked = none → s.testers[u].docked = none →
        exec (.dock m (number h) (number u)) s = .next
          ({ s.taken with
              handlers := s.handlers.set h { s.handlers[h] with docked := some u }
              testers := s.testers.set u { s.testers[u] with docked := some h } }.answered m .dock .ok .nothing)) ∧
      (¬ out → exec (.dock m (number h) (number u)) s = .next (s.taken.answered m .dock .busy .nothing)) ∧
      (out → s.handlers[h].docked = some u → s.testers[u].docked = some h →
        exec (.dock m (number h) (number u)) s = .next (s.taken.answered m .dock .duplicate .nothing))) ∧
    (s.takes m .undock anyPayload = true → serves →
      (s.handlers[h].docked = some u → out →
        exec (.undock m (number h)) s = .next
          ({ s.taken with
              handlers := s.handlers.set h { s.handlers[h] with docked := none }
              testers := s.testers.set u { s.testers[u] with docked := none } }.answered m .undock .ok .nothing)) ∧
      (s.handlers[h].docked = some u → ¬ out →
        exec (.undock m (number h)) s = .next (s.taken.answered m .undock .busy .nothing)) ∧
      (s.handlers[h].docked = none →
        exec (.undock m (number h)) s = .next (s.taken.answered m .undock .wrongState .nothing))) ∧
    (∀ j, s.handlers[h].lock = some j → j ≠ m.sender → (s.rolesOf m.sender).hasAny [.engineering, .supervisor] = true →
      (s.takes m .dock anyPayload = true →
        exec (.dock m (number h) (number u)) s = .next (s.taken.answered m .dock .locked .nothing)) ∧
      (s.takes m .undock anyPayload = true →
        exec (.undock m (number h)) s = .next (s.taken.answered m .undock .locked .nothing))) ∧
    (s.takes m .handlerLock anyPayload = true →
      let locks (r : Result) : Prop := exec (.handlerLock m (number h)) s = .next (s.taken.answered m .handlerLock r .nothing)
      (s.handlers[h].lock = none → out →
        exec (.handlerLock m (number h)) s = .next
          ({ s.taken with handlers := s.handlers.set h { s.handlers[h] with lock := some m.sender } }.answered m .handlerLock .ok
            .nothing)) ∧
      (s.handlers[h].lock = none → ¬ out → locks .busy) ∧
      (s.handlers[h].lock = some m.sender → locks .duplicate) ∧
      (∀ j, s.handlers[h].lock = some j → j ≠ m.sender → locks .locked)) ∧
    (s.takes m .handlerUnlock anyPayload = true → ∀ j, s.handlers[h].lock = some j →
      (j = m.sender ∨ m.sender = 0 →
        exec (.handlerUnlock m (number h)) s = .next
          ({ s.taken with handlers := s.handlers.set h { s.handlers[h] with lock := none } }.answered m .handlerUnlock .ok
            .nothing)) ∧
      (j ≠ m.sender → m.sender ≠ 0 →
        exec (.handlerUnlock m (number h)) s = .next (s.taken.answered m .handlerUnlock .locked .nothing)))

/-- The reports of a cell: KIT_INSTALLED records the kit and has the ready conditions checked; TEMP_REACHED of the target
takes a RAMPING handler to SOAKING for the target's soak, or to AT_TEMP when that is 0; TEMP_LOST takes a SOAKING or AT_TEMP
handler back to RAMPING and places THERMAL on its current lot.  That the soak countdown of a handler that is not SOAKING keeps
the value it stood at, and is answered, is the model's reading (assumption 12). -/
def Obligations.KitAndTemperature : Prop :=
  ∀ (m : Msg) (h : HandlerId) (s : State), s.stations[m.sender].bound = some h →
    (∀ kit : Option Nat, s.takes m .kitInstalled anyPayload = true → (∀ n, kit = some n → n ≤ 63) →
      (s.handlers[h].cell.current = none →
        exec (.kitInstalled m kit) s = .next
          (({ s.taken with handlers := s.handlers.set h { s.handlers[h] with kit := kit } }.readyCheck h).answered
            m .kitInstalled .ok (.kit kit s.handlers[h].requiredKit))) ∧
      (s.handlers[h].cell.current ≠ none →
        exec (.kitInstalled m kit) s = .next (s.taken.answered m .kitInstalled .busy .nothing))) ∧
    (∀ (t : Int) (goal : Target), s.takes m .tempReached anyPayload = true → -55 ≤ t → t ≤ 175 →
      s.handlers[h].target = some goal → s.handlers[h].cell ≠ .offline →
      let reached (thermal : Thermal) (soak : Nat) : State :=
        { s.taken with
          handlers := s.handlers.set h
            { s.handlers[h] with setpoint := some goal.setpoint, thermal := thermal, soakLeft := soak } }
      (t ≠ goal.setpoint → exec (.tempReached m t) s = .next (s.taken.answered m .tempReached .mismatch .nothing)) ∧
      (t = goal.setpoint → s.handlers[h].thermal ≠ .ramping →
        exec (.tempReached m t) s = .next
          (s.taken.answered m .tempReached .ok (.thermal s.handlers[h].thermal s.handlers[h].soakLeft))) ∧
      (t = goal.setpoint → s.handlers[h].thermal = .ramping → goal.soak = 0 →
        exec (.tempReached m t) s = .next
          (((reached .atTemp s.handlers[h].soakLeft).readyCheck h).answered m .tempReached .ok
            (.thermal .atTemp s.handlers[h].soakLeft))) ∧
      (t = goal.setpoint → s.handlers[h].thermal = .ramping → goal.soak ≠ 0 →
        exec (.tempReached m t) s = .next
          (((reached .soaking goal.soak).readyCheck h).answered m .tempReached .ok (.thermal .soaking goal.soak)))) ∧
    (s.takes m .tempLost anyPayload = true → s.handlers[h].cell ≠ .offline →
      let ramping : State := { s.taken with handlers := s.handlers.set h { s.handlers[h] with thermal := .ramping } }
      (s.handlers[h].thermal = .soaking ∨ s.handlers[h].thermal = .atTemp →
        (∀ k, s.handlers[h].cell.current = some k →
          exec (.tempLost m) s = .next
            ((ramping.placeHold k .thermal none 0).1.answered m .tempLost .ok (.thermalState .ramping))) ∧
        (s.handlers[h].cell.current = none →
          exec (.tempLost m) s = .next ((ramping.readyCheck h).answered m .tempLost .ok (.thermalState .ramping)))) ∧
      (s.handlers[h].thermal = .unknown ∨ s.handlers[h].thermal = .ramping →
        exec (.tempLost m) s = .next (s.taken.answered m .tempLost .ok (.thermalState s.handlers[h].thermal))))

/-- TESTER_CONFIG: ENABLE sets the configured flag, DISABLE of an undocked tester that is not LOADING clears it and both
slots, and CLEAR_ACTIVE with the docked handler out of work clears the active slot; what stands against each is answered as
its rule says. -/
def Obligations.TesterConfig : Prop :=
  ∀ (m : Msg) (u : TesterId) (s : State), s.takes m .testerConfig anyPayload = true →
    let lock : Option StationId := s.testers[u].docked.bind (fun h : HandlerId => s.handlers[h].lock)
    (s.rolesOf m.sender).hasAny [.supervisor, .engineering] = true ∧ lock = none ∨ lock = some m.sender →
    let x := s.testers[u]
    let done (c : Instr) (y : Tester) : Prop :=
      exec c s = .next
        ({ s.taken with testers := s.testers.set u y }.answered m .testerConfig .ok (.testerSlots y.configured y.active y.staged))
    let refused (c : Instr) (r : Result) : Prop := exec c s = .next (s.taken.answered m .testerConfig r .nothing)
    let loading : Prop := ∃ g, x.staged = some g ∧ g.state = .loading
    let working : Prop := ∃ h : HandlerId, x.docked = some h ∧ s.handlers[h].cell ≠ .offline ∧ s.handlers[h].cell ≠ .idle
    done (.testerConfigEnable m (number u)) { x with configured := true } ∧
    (x.docked ≠ none → refused (.testerConfigDisable m (number u)) .inUse) ∧
    (x.docked = none → x.configured = false → refused (.testerConfigDisable m (number u)) .wrongState) ∧
    (x.docked = none → x.configured = true → loading → refused (.testerConfigDisable m (number u)) .busy) ∧
    (x.docked = none → x.configured = true → ¬ loading →
      done (.testerConfigDisable m (number u)) { x with configured := false, active := none, staged := none }) ∧
    (x.configured = false → refused (.testerConfigClearActive m (number u)) .wrongState) ∧
    (x.configured = true → working → refused (.testerConfigClearActive m (number u)) .busy) ∧
    (x.configured = true → ¬ working → done (.testerConfigClearActive m (number u)) { x with active := none })

/-- Loads by request: STAGE_PROGRAM starts a load with attempt count 1; PROGRAM_LOADED of the program LOADING makes the slot
LOADED when the signature is the library's and FAULT with cause SIGNATURE otherwise; STAGE_ABORT empties the slot and
cancels a reservation that waits on the load, which is the docked handler's reserved lot where its resolved program is the
one aborted.  The end of a load is then followed.  That PROGRAM_LOADED answers the slot state the report itself gives, whatever
the end of the load then starts, is the model's reading (assumption 20). -/
def Obligations.Loads : Prop :=
  ∀ (m : Msg) (u : TesterId) (s : State),
    (∀ (p : Program) (k : Slot),
      s.reservationNeeds u p = some k ↔ ∃ h : HandlerId, s.testers[u].docked = some h ∧ s.reservedOn h = some (k, p)) ∧
    (∀ p e x, s.takes m .stageProgram anyPayload = true → programOk p e = true → s.testers[u].configured = true →
      s.revision? ⟨p, e⟩ = some x → x.withdrawal = none →
      (∀ h : HandlerId, s.testers[u].docked = some h → s.handlers[h].cell.reserved = none) →
      (∀ g, s.testers[u].staged = some g → g.state ≠ .loading) → s.testers[u].atHand ⟨p, e⟩ = false →
      exec (.stageProgram m (number u) p e) s = .next
        ((s.taken.startLoad u ⟨p, e⟩ 1).answered m .stageProgram .ok (.deadline (2 * x.estimate)))) ∧
    (∀ (named : Option Nat) (p e : Nat) (sig : Signature) (g : Staged), s.takes m .programLoaded anyPayload = true →
      programOk p e = true →
      (named = some (number u) ∧ (s.rolesOf m.sender).has .engineering = true ∨
        named = none ∧ (s.rolesOf m.sender).has .cell = true ∧
          ∃ h : HandlerId, s.stations[m.sender].bound = some h ∧ s.handlers[h].docked = some u) →
      s.testers[u].staged = some g →
      let reported (x : StagedState) : State :=
        { s.taken with
          testers := s.testers.set u { s.testers[u] with staged := some { g with state := x, reported := some sig } } }
      (g.state = .loading → g.program = ⟨p, e⟩ → sig = g.expected →
        exec (.programLoaded m named p e sig) s = .next
          (((reported .loaded).afterLoad u).answered m .programLoaded .ok (.stagedState .loaded))) ∧
      (g.state = .loading → g.program = ⟨p, e⟩ → sig ≠ g.expected →
        exec (.programLoaded m named p e sig) s = .next
          ((((reported (.fault .signature)).markStagingFault u).afterLoad u).answered m .programLoaded .ok
            (.stagedState .fault))) ∧
      (g.state = .loading → g.program ≠ ⟨p, e⟩ →
        exec (.programLoaded m named p e sig) s = .next (s.taken.answered m .programLoaded .mismatch .nothing)) ∧
      (g.state ≠ .loading →
        exec (.programLoaded m named p e sig) s = .next (s.taken.answered m .programLoaded .tooLate .nothing))) ∧
    (∀ (named : Option Nat) (g : Staged), s.takes m .stageAbort anyPayload = true →
      (named = some (number u) ∧ (s.rolesOf m.sender).hasAny [.engineering, .floor] = true ∨
        named = none ∧ (s.rolesOf m.sender).has .cell = true ∧
          ∃ h : HandlerId, s.stations[m.sender].bound = some h ∧ s.handlers[h].docked = some u) →
      s.testers[u].staged = some g →
      let emptied : State := { s.taken with testers := s.testers.set u { s.testers[u] with staged := none } }
      (g.state = .loading → s.reservationNeeds u g.program = none →
        exec (.stageAbort m named) s = .next ((emptied.afterLoad u).answered m .stageAbort .ok (.aborted false))) ∧
      (∀ k, g.state = .loading → s.reservationNeeds u g.program = some k →
        exec (.stageAbort m named) s = .next
          (((emptied.cancelReservation k false).afterLoad u).answered m .stageAbort .ok (.aborted true))) ∧
      (g.state ≠ .loading →
        exec (.stageAbort m named) s = .next (s.taken.answered m .stageAbort .wrongState .nothing)))

/-! ### The Yield Guard -/

/-- The sequence check of a touchdown index: accepted when the last accepted index is absent; by d, the index less the last
one modulo 65,536, DUPLICATE at 0, accepted at 1 to 256 with d − 1 touchdowns skipped, OUT_OF_SEQUENCE above.  An accepted
index becomes the last accepted one, a run begins with none, and a touchdown answered DUPLICATE or OUT_OF_SEQUENCE changes
nothing. -/
def Obligations.SequenceCheck : Prop :=
  (∀ index : BitVec 16, sequenceCheck none index = .accepted 0) ∧
  (∀ last index : BitVec 16,
    let d := ((index.toNat : Int) - last.toNat) % 65536
    (d = 0 → sequenceCheck (some last) index = .duplicate) ∧
    (d = 1 → sequenceCheck (some last) index = .accepted 0) ∧
    (2 ≤ d → d ≤ 256 → sequenceCheck (some last) index = .accepted (d.toNat - 1)) ∧
    (257 ≤ d → sequenceCheck (some last) index = .outOfSequence)) ∧
  (∀ (s : State) (h : HandlerId) (l : Lot) (g : GuardRun) (index : BitVec 16) (n : Nat) (us : List (SiteIx × Nat)),
    ((s.countTouchdown h l g index n us).guards[h]).map GuardRun.lastIndex = some (some index)) ∧
  (∀ (k : Slot) (n : Nat), (freshRun k n).lastIndex = none) ∧
  (∀ (m : Msg) (lot : Text) (index : BitVec 16) (results : List Nat) (h : HandlerId) (l : Lot) (g : GuardRun)
    (c : HandlerConfig) (s : State), s.takes m .touchdown (readsAs readTouchdown m.fits (lot, index, results)) = true →
    lotIdOk lot = true → (∀ b ∈ results, b ≤ 16) → s.lotNamed? lot = some l → s.stations[m.sender].bound = some h →
    s.handlers[h].cell.current = some l.slot → s.handlers[h].config = some c → results.length = c.siteCount →
    1 ≤ c.siteCount → c.siteCount ≤ 8 → s.guards[h] = some g →
    (sequenceCheck g.lastIndex index = .duplicate →
      exec (.touchdown m lot index results) s = .next (s.taken.answered m .touchdown .duplicate .nothing)) ∧
    (sequenceCheck g.lastIndex index = .outOfSequence →
      exec (.touchdown m lot index results) s = .next (s.taken.answered m .touchdown .outOfSequence .nothing)))

/-- An accepted TOUCHDOWN of the current lot records index and gap, counts its units, applies the checks when at least one
unit was counted, restarts the stall countdown of a handler still RUNNING, and makes the lookahead selection, in this order;
the answer tells what each did.  The checks are the four hold checks in their order and then the site disparity check, which
takes the site it finds out of the handler's enable set and marks SITE_DISABLED for its bound station.  The lookahead selection after an accepted touchdown: it is made for a RUNNING handler
without a reserved lot whose lookahead is not 0 and whose lot has no more units left than it, as a lot is found; otherwise
nothing changes. -/
def Obligations.Touchdown : Prop :=
  (∀ (m : Msg) (lot : Text) (index : BitVec 16) (results : List Nat) (h : HandlerId) (l : Lot) (g : GuardRun) (c : HandlerConfig)
    (s : State), s.takes m .touchdown (readsAs readTouchdown m.fits (lot, index, results)) = true → lotIdOk lot = true →
    (∀ b ∈ results, b ≤ 16) → s.lotNamed? lot = some l → s.stations[m.sender].bound = some h →
    s.handlers[h].cell.current = some l.slot → s.handlers[h].config = some c → results.length = c.siteCount → 1 ≤ c.siteCount →
    c.siteCount ≤ 8 → s.guards[h] = some g →
    let does (u : State) (r : Result) (b : Body) : Prop :=
      exec (.touchdown m lot index results) s = .next (u.answered m .touchdown r b)
    let counted (n : Nat) : State := s.taken.countTouchdown h l g index n (unitsOf results)
    let restart (u : State) : State :=
      if u.handlers[h].cell.name = .running then
        { u with handlers := u.handlers.set h { u.handlers[h] with stallLeft := u.handlers[h].stallTime, stalled := false } }
      else u
    (∀ n, sequenceCheck g.lastIndex index = .accepted n → saturates l.cur (unitsOf results) = false → unitsOf results ≠ [] →
      let checked := (counted n).checkTouchdown h l.slot
      let a := (restart checked.1.state).lookahead h
      does a.1 .ok (.touchdown (unitsOf results).length false (index + 1) a.1.handlers[h].cell.name checked.2 checked.1.placed
        a.2)) ∧
    (∀ n, sequenceCheck g.lastIndex index = .accepted n → saturates l.cur (unitsOf results) = true ∨ unitsOf results = [] →
      let a := (restart (counted n)).lookahead h
      does a.1 .ok (.touchdown 0 (saturates l.cur (unitsOf results)) (index + 1) a.1.handlers[h].cell.name none [] a.2))) ∧
  (∀ (s : State) (h : HandlerId) (k : Slot) (l : Lot) (g : GuardRun) (c : HandlerConfig), s.lot? k = some l →
    s.guards[h] = some g → s.handlers[h].config = some c →
    let held := holdChecks (s.stepOf l) k l.cur g.ring s
    let without (i : SiteIx) : State :=
      { held.state with
        handlers := held.state.handlers.set h
          { held.state.handlers[h] with
            config := some { c with sitesEnabled := c.sitesEnabled &&& ~~~(1 <<< i.val : BitVec 8) } } }
    (∀ i, disparitySite? (s.stepOf l) c.sitesEnabled g.sites = some i →
      s.checkTouchdown h k = ({ held with state := (without i).markBound h .siteDisabled (unitBit h) }, some i)) ∧
    (disparitySite? (s.stepOf l) c.sitesEnabled g.sites = none → s.checkTouchdown h k = (held, none))) ∧
  (∀ (s : State) (h : HandlerId) (k : Slot) (l : Lot) (c : HandlerConfig), s.lot? k = some l → s.handlers[h].config = some c →
    let due : Prop := c.lookahead ≠ 0 ∧ l.cur.quantityIn ≤ l.cur.tested + c.lookahead
    (s.handlers[h].cell = .running k none → due →
      (∀ x y, s.select h = some (x, y) → s.lookahead h = (s.reserve h x, some x.id)) ∧
      (s.select h = none → s.lookahead h = (s, none))) ∧
    (s.handlers[h].cell = .running k none → ¬ due → s.lookahead h = (s, none)) ∧
    (s.handlers[h].cell.name ≠ .running ∨ s.handlers[h].cell.reserved ≠ none → s.lookahead h = (s, none)))

/-- The counts of an accepted touchdown: tested rises by the units counted, good by those whose bin passes and each group by
those whose bin fails in it; a touchdown that would take tested past 16,777,215 counts none and sets the saturated flag; the
gap total of the run in progress grows by the touchdowns skipped; the ring keeps the last W outcomes; each enabled site
counts its unit; the index is recorded; nothing else changes. -/
def Obligations.TouchdownCounts : Prop :=
  ∀ (s : State) (h : HandlerId) (l : Lot) (g : GuardRun) (index : BitVec 16) (n : Nat) (results : List Nat), s.SlotsInOrder →
    s.lot? l.slot = some l → results.length ≤ 8 →
    let st := s.stepOf l
    let bins := results.filter (fun b => b ≠ 0)
    let full : Prop := 16777215 < l.cur.tested + bins.length
    let t := s.countTouchdown h l g index n (unitsOf results)
    let runs : List RunEntry := l.cur.runs.map (fun r =>
      if r.endTime = none then { r with gapTotal := min 16777215 (r.gapTotal + n) } else r)
    let failed (grp : BinGroup) : Nat := bins.countP (fun b => !st.passes b && st.groupOfBin b = grp)
    (full →
      t = { s.putLot { l with cur := { l.cur with runs := runs, saturated := true } } with
            guards := s.guards.set h (some { g with lastIndex := some index }) }) ∧
    (¬ full → ∃ sites : Vector SiteCount 8,
      t = { s.putLot { l with cur := { l.cur with
                runs := runs
                tested := l.cur.tested + bins.length
                good := l.cur.good + bins.countP st.passes
                fails := ⟨l.cur.fails.a + failed .a, l.cur.fails.b + failed .b, l.cur.fails.c + failed .c,
                          l.cur.fails.d + failed .d⟩ } } with
            guards := s.guards.set h (some
              { g with
                lastIndex := some index
                sites := sites
                ring := if bins = [] then g.ring
                  else (g.ring ++ bins.map st.passes).drop (g.ring.length + bins.length - st.window) }) } ∧
      ∀ i : SiteIx, sites[i] =
        match results[i.val]? with
        | some b =>
          if b ≠ 0 && s.handlers[h].sites.getLsbD i.val then
            ⟨g.sites[i].tested + 1, g.sites[i].good + (st.passes b).toNat⟩
          else g.sites[i]
        | none => g.sites[i])

/-- What trips the hold checks: COUNT_EXCESS tested above quantity in; YIELD_LOW an armed step with at least S tested and
good × 1000 ÷ tested below L, a disarmed one rearming at L + H; WINDOW_LOW a full ring with (W − f) × 1000 ÷ W below Lw, Lw
not 0; BIN_SPIKE, with at least S tested, a group whose limit is below 1000 and whose fails × 1000 ÷ tested exceed it.  The
site disparity check: with D not 0 and at least two enabled sites, the site with the largest gap, the lowest of equals, is
removed when that gap exceeds D: it leaves the handler's enable set and SITE_DISABLED is marked for the bound station; a gap is the others' pooled yield less the site's, where both have at least max(1, S ÷ n)
units.  It removes no site otherwise, so an enable set never becomes empty by it. -/
def Obligations.ChecksTrip : Prop :=
  (∀ (st : RouteStep) (r : StepRecord) (ring : List Bool),
    (countExceeds r = true ↔ r.quantityIn < r.tested) ∧
    (yieldLowTrips st r = true ↔ st.minSample ≤ r.tested ∧ r.armed = true ∧ r.good * 1000 / r.tested < st.yieldLow) ∧
    (cumulativeRearms st r = true ↔
      st.minSample ≤ r.tested ∧ r.armed = false ∧ st.yieldLow + st.hysteresis ≤ r.good * 1000 / r.tested) ∧
    (windowLowTrips st ring = true ↔ ring.length = st.window ∧ st.windowLow ≠ 0 ∧
      (st.window - ring.count false) * 1000 / st.window < st.windowLow) ∧
    (∀ g : BinGroup, (trippedGroups st r).getLsbD g.code = true ↔
      st.minSample ≤ r.tested ∧ st.groupLimit.get g < 1000 ∧ st.groupLimit.get g < r.fails.get g * 1000 / r.tested)) ∧
  (∀ (st : RouteStep) (enabled : BitVec 8) (sites : Vector SiteCount 8),
    let on := (List.finRange 8).filter (fun i => enabled.getLsbD i.val)
    let sample := max 1 (st.minSample / on.length)
    let tested (i : SiteIx) := ((on.filter (fun j => j ≠ i)).map (fun j => sites[j].tested)).sum
    let good (i : SiteIx) := ((on.filter (fun j => j ≠ i)).map (fun j => sites[j].good)).sum
    let gap (i : SiteIx) : Int :=
      ((good i * 1000 / tested i : Nat) : Int) - ((sites[i].good * 1000 / sites[i].tested : Nat) : Int)
    let has (i : SiteIx) : Prop := enabled.getLsbD i.val = true ∧ sample ≤ sites[i].tested ∧ sample ≤ tested i
    (∀ i, siteGap? st.minSample enabled sites i = some (gap i) ↔ has i) ∧
    (∀ i, siteGap? st.minSample enabled sites i = none ↔ ¬ has i) ∧
    (∀ i, disparitySite? st enabled sites = some i ↔
      st.disparity ≠ 0 ∧ 2 ≤ on.length ∧ has i ∧ (st.disparity : Int) < gap i ∧
      (∀ j, has j → gap j ≤ gap i) ∧ (∀ j, j < i → has j → gap j < gap i)) ∧
    (∀ i, disparitySite? st enabled sites = some i → enabled &&& ~~~(1 <<< i.val : BitVec 8) ≠ 0) ∧
    (∀ (s : State) (h : HandlerId) (c : HandlerConfig), s.handlers[h].config = some { c with sitesEnabled := enabled } →
      let without (i : SiteIx) : State :=
        { s with
          handlers := s.handlers.set h
            { s.handlers[h] with config := some { c with sitesEnabled := enabled &&& ~~~(1 <<< i.val : BitVec 8) } } }
      (∀ i, disparitySite? st enabled sites = some i →
        s.siteCheck st h sites = ((without i).markBound h .siteDisabled (unitBit h), some i)) ∧
      (disparitySite? st enabled sites = none → s.siteCheck st h sites = (s, none))))

/-- The reasons that an accepted touchdown hands to the Hold Unit are placed in the order COUNT_EXCESS, YIELD_LOW,
WINDOW_LOW, BIN_SPIKE, each that trips and is not in the hold set already; the first drains a RUNNING lot; BIN_SPIKE records
its groups; with none tripped nothing changes but the armed flag. -/
def Obligations.ChecksPlaceInOrder : Prop :=
  ∀ (s : State) (k : Slot) (l : Lot) (st : RouteStep) (ring : List Bool), s.SlotsInOrder → s.lot? k = some l →
    l.state ≠ .scrapped →
    let r := l.cur
    let c := holdChecks st k r ring s
    let reasons : List HoldReason :=
      (if countExceeds r then [.countExcess] else []) ++ (if yieldLowTrips st r then [.yieldLow] else []) ++
      (if windowLowTrips st ring then [.windowLow] else []) ++ (if trippedGroups st r ≠ 0 then [.binSpike] else [])
    c.placed = reasons.filter (fun x => !l.hasHold x) ∧
    (∀ h q, l.state = .running h q → c.placed ≠ [] →
      ∃ x, c.state.lot? k = some x ∧ x.state.drainCause? = c.placed.head? ∧
        (∀ y, x.hasHold y = true ↔ l.hasHold y = true ∨ y ∈ reasons)) ∧
    (.binSpike ∈ c.placed → ∃ x e, c.state.lot? k = some x ∧ x.holdOf? .binSpike = some e ∧ e.groups = trippedGroups st r) ∧
    (reasons = [] → cumulativeRearms st r = false → c.state = s) ∧
    (reasons = [] → cumulativeRearms st r = true → c.state = s.putLot { l with cur := { l.cur with armed := true } })

/-! ### Shipment -/

/-- LOT_ENDORSE of a COMPLETE lot appends the sender's entry; while required roles are missing the lot stays COMPLETE; the
last required endorsement releases it while the release queue holds fewer than 32 records, and gives it the next waiting
stamp otherwise.  The checks are made in the order of their rule. -/
def Obligations.Endorse : Prop :=
  ∀ (m : Msg) (lot : Text) (l : Lot) (r : Role) (route : Route) (s : State), s.takes m .lotEndorse anyPayload = true →
    s.SlotsInOrder → lotIdOk lot = true → s.lotNamed? lot = some l → r = .quality ∨ r = .dock ∨ r = .engineering →
    s.products[l.product].active = some route →
    let does (u : State) (x : Result) (b : Body) : Prop := exec (.lotEndorse m lot r.code) s = .next (u.answered m .lotEndorse x b)
    let holds : Prop := (s.rolesOf m.sender).has r = true
    let engineered : Bool := l.deviationUsed || l.waiver
    let fresh : Prop := ∀ e ∈ l.endorsements, e.station ≠ m.sender ∧ e.role ≠ r
    let entries : List Endorsement := l.endorsements ++ [⟨m.sender, r, s.floorTime⟩]
    let missing : List Role :=
      (if engineered then [Role.quality, .dock, .engineering] else [.quality, .dock]).filter (fun x =>
        entries.all (fun e => e.role ≠ x))
    let takes : Prop := holds ∧ l.state.name = .complete ∧ (r = .engineering → engineered = true) ∧ fresh
    (takes → missing ≠ [] →
      does (s.taken.putLot { l with endorsements := entries }) .ok (.endorsed .complete missing none)) ∧
    (takes → missing = [] → s.releaseQueue.length < 32 →
      does
        ({ s.taken.putLot { l with endorsements := entries, state := .released } with
            releaseQueue := s.releaseQueue ++
              [({ slot := l.slot, lot := l.id, product := route.code, quantity := l.cur.good, time := s.floorTime
                  endorsers := entries.map (fun e : Endorsement => (e.station, e.role)) } : ReleaseRecord)] }.markRoles [.dock, .floor] .lotReleased 0)
        .ok (.endorsed .released [] (some s.releaseQueue.length))) ∧
    (takes → missing = [] → 32 ≤ s.releaseQueue.length →
      let stamp := min 4294967295 (s.waitingCounter + 1)
      let t : State :=
        { s.taken.putLot { l with endorsements := entries, state := .complete (some stamp) } with waitingCounter := stamp }
      does t .ok (.endorsed .complete [] (some (t.waitingList.findIdx (fun x => x.slot = l.slot))))) ∧
    (¬ holds → does s.taken .notPermitted .nothing) ∧
    (holds → l.state = .held → does s.taken .lotHeld .nothing) ∧
    (holds → l.state ≠ .held → l.state.name ≠ .complete → does s.taken .wrongState .nothing) ∧
    (holds → l.state.name = .complete → r = .engineering → engineered = false → does s.taken .wrongState .nothing) ∧
    (holds → l.state.name = .complete → (r = .engineering → engineered = true) → ¬ fresh → does s.taken .duplicate .nothing)

/-- ENDORSE_WITHDRAW takes the sender's own entry back from a COMPLETE lot, which leaves the release-waiting list; whoever
has no entry is answered NO_SUCH_ENTRY, and a lot in another state WRONG_STATE.  SHIP_COLLECT of a RELEASED lot answers its
release record as it stood, takes the record from the queue wherever it stands and the lot from the table, and offers the
freed place to the oldest waiting lot, which is released to the tail; a lot that is not RELEASED is answered NOT_RELEASED.
-/
def Obligations.WithdrawAndCollect : Prop :=
  (∀ (m : Msg) (lot : Text) (l : Lot) (s : State), s.takes m .endorseWithdraw anyPayload = true → s.SlotsInOrder →
    lotIdOk lot = true → s.lotNamed? lot = some l →
    let left := l.endorsements.filter (fun e => e.station ≠ m.sender)
    (∀ w, l.state = .complete w → (∃ e ∈ l.endorsements, e.station = m.sender) →
      exec (.endorseWithdraw m lot) s = .next
        ((s.taken.putLot { l with state := .complete none, endorsements := left }).answered m .endorseWithdraw .ok
          (.withdrawn left w.isSome))) ∧
    (∀ w, l.state = .complete w → (∀ e ∈ l.endorsements, e.station ≠ m.sender) →
      exec (.endorseWithdraw m lot) s = .next (s.taken.answered m .endorseWithdraw .noSuchEntry .nothing)) ∧
    (l.state.name ≠ .complete →
      exec (.endorseWithdraw m lot) s = .next (s.taken.answered m .endorseWithdraw .wrongState .nothing))) ∧
  (∀ (m : Msg) (lot : Text) (l : Lot) (s : State), s.takes m .shipCollect anyPayload = true → s.SlotsInOrder →
    lotIdOk lot = true → s.lotNamed? lot = some l →
    (l.state ≠ .released →
      exec (.shipCollect m lot) s = .next (s.taken.answered m .shipCollect .notReleased .nothing)) ∧
    (∀ r, l.state = .released → s.releaseQueue.find? (fun x => x.slot = l.slot) = some r →
      let t : State :=
        { s.taken with
          lots := s.lots.filter (fun x => x.slot ≠ l.slot)
          releaseQueue := s.releaseQueue.filter (fun x => x.slot ≠ l.slot) }
      (s.waitingList = [] → exec (.shipCollect m lot) s = .next (t.answered m .shipCollect .ok (.shipped r))) ∧
      (∀ w ws route, s.waitingList = w :: ws → s.products[w.product].active = some route →
        exec (.shipCollect m lot) s = .next
          (({ t.putLot { w with state := .released } with
              releaseQueue := t.releaseQueue ++
                [({ slot := w.slot, lot := w.id, product := route.code, quantity := w.cur.good, time := s.floorTime
                    endorsers := w.endorsements.map (fun e : Endorsement => (e.station, e.role)) } : ReleaseRecord)] }.markRoles [.dock, .floor] .lotReleased
            0).answered m .shipCollect .ok (.shipped r)))))

/-! ### Queries -/

/-- The queries of lots and queues answer the records as they stand, and change nothing: LOT_QUERY, LOT_SCAN, QUEUE_QUERY
and RELEASE_QUERY. -/
def Obligations.LotQueries : Prop :=
  ∀ (m : Msg) (s : State),
    (∀ lot l, s.takes m .lotQuery anyPayload = true → lotIdOk lot = true → s.lotNamed? lot = some l →
      let does (p : LotPart) (b : Body) : Prop := exec (.lotQuery m lot p) s = .next (s.taken.answered m .lotQuery .ok b)
      does .header (.lotHeader l.state.name
        { slot := l.slot, product := l.product, startQuantity := l.startQuantity, priority := l.priority
          currentStep := l.past.length + 1, waiver := l.waiver, deviationUsed := l.deviationUsed
          stamp := l.state.wait?.map (·.stamp), age := l.state.wait?.map (·.age), left := l.state.wait?.bind (·.left)
          reservedHandler := l.state.reservedHandler?, currentHandler := l.state.currentHandler?
          resolved := l.state.resolved?, drainCause := l.state.drainCause?, holds := l.holds.length
          endorsements := l.endorsements.length, waiting := l.state.waiting?.isSome }) ∧
      (∀ n r, 1 ≤ n → n ≤ 4 → (l.past ++ [l.cur])[n - 1]? = some r →
        does (.step n 0) (.lotStep l.state.name r.quantityIn r.tested r.good r.fails r.missing r.closeTime r.finalYield r.armed
          r.rescreens r.saturated r.runs.length) ∧
        (∀ k e, 1 ≤ k → k ≤ 4 → r.runs[k - 1]? = some e → does (.step n k) (.lotRun l.state.name e))) ∧
      (∀ n, n ≤ 11 →
        let entries := l.holds.filter (fun e => n ≤ e.reason.code)
        does (.holds n) (.lotHolds l.state.name (entries.take 6) (6 < entries.length))) ∧
      does .endorsements (.lotEndorsements l.state.name l.endorsements)) ∧
    (∀ after : Option Nat, s.takes m .lotScan anyPayload = true → s.SlotsInOrder → (∀ n, after = some n → n ≤ 255) →
      (∀ l ∈ s.lots, (∀ n, after = some n → n < l.slot.val) →
        (∀ x ∈ s.lots, (∀ n, after = some n → n < x.slot.val) → l.slot ≤ x.slot) →
        exec (.lotScan m after) s = .next
          (s.taken.answered m .lotScan .ok (.scanned l.slot l.id l.state.name (l.past.length + 1)))) ∧
      ((∀ x ∈ s.lots, ∃ n, after = some n ∧ x.slot.val ≤ n) →
        exec (.lotScan m after) s = .next (s.taken.answered m .lotScan .empty .nothing))) ∧
    (∀ c start, s.takes m .queueQuery anyPayload = true →
      (start < (s.queue c).length →
        exec (.queueQuery m (some c) start) s = .next (s.taken.answered m .queueQuery .ok
          (.queue (s.queue c).length ((((s.queue c).drop start).take 10).map (fun l =>
            (l.slot, l.priority, l.age / 60,
              decide (s.settings.ageCeiling ≠ 0 ∧ s.settings.ageCeiling * 60 ≤ l.age))))))) ∧
      ((s.queue c).length ≤ start →
        exec (.queueQuery m (some c) start) s = .next
          (s.taken.answered m .queueQuery .empty (.queueLength (s.queue c).length)))) ∧
    (s.takes m .releaseQuery anyPayload = true →
      let does (p : ReleasePart) (r : Result) (b : Body) : Prop :=
        exec (.releaseQuery m p) s = .next (s.taken.answered m .releaseQuery r b)
      let records := s.releaseQueue.length
      let waiting := s.waitingList.length
      (∀ n, n < records → does (.queue n) .ok (.releaseQueue records waiting
        (((s.releaseQueue.zipIdx.drop n).take 5).map (fun x => (x.2, x.1.slot, x.1.quantity, x.1.time))))) ∧
      (∀ n, records ≤ n → does (.queue n) .empty (.releaseLengths records waiting)) ∧
      (∀ n, n < waiting → does (.waiting n) .ok (.waitingList waiting
        (((s.waitingList.drop n).take 5).map (fun l => (l.slot, l.waitingStamp, l.cur.good))))) ∧
      (∀ n, waiting ≤ n → does (.waiting n) .empty (.releaseLengths records waiting)) ∧
      (∀ n r, n ≤ 31 → s.releaseQueue[n]? = some r → does (.recordAt n) .ok (.releaseRecord r n)) ∧
      (∀ lot l n r, lotIdOk lot = true → s.lotNamed? lot = some l → l.state = .released → s.releaseQueue[n]? = some r →
        r.slot = l.slot → (∀ j x, j < n → s.releaseQueue[j]? = some x → x.slot ≠ l.slot) →
        does (.recordOf lot) .ok (.releaseRecord r n)))

/-- The queries of products, programs, testers and deviations, and PART_STATUS, answer the tables as they stand and change
nothing.  CELL_STATUS and YIELD_QUERY answer a handler and its guard as they stand, with the figures as the checks compute
them, and change nothing; a guard without a run is answered EMPTY.  That SITES answers a site's gap by the sample
conditions alone, also where D is 0, is the model's choice (assumption 21). -/
def Obligations.TableQueries : Prop :=
  (∀ (m : Msg) (s : State),
    (∀ i : ProductIx, s.takes m .productQuery anyPayload = true →
      exec (.productQuery m (.index i.val) .header) s = .next (s.taken.answered m .productQuery .ok
        (.productHeader i s.products[i].state (s.products[i].active.map (fun r => (r.code, r.steps.length)))
          ((s.products[i].active.map (fun r => r.steps.map (fun st => classOf st.setpoint))).getD [])
          (s.lots.countP (fun l => l.product = i))
          ((List.finRange 8).countP (fun d => (s.deviations[d]).any (fun e => e.product = i)))
          (s.products[i].draft.map (fun d => (d.code, d.count, d.steps.length, d.owner))))) ∧
      (∀ n r st, 1 ≤ n → n ≤ 4 → s.products[i].active = some r → r.steps[n - 1]? = some st →
        exec (.productQuery m (.index i.val) (.step n)) s = .next (s.taken.answered m .productQuery .ok
          (.productStep st (classOf st.setpoint))))) ∧
    (s.takes m .programQuery anyPayload = true →
      let does (k : LibraryKey) (r : Result) (b : Body) : Prop :=
        exec (.programQuery m k) s = .next (s.taken.answered m .programQuery r b)
      let content (i : LibIx) (e : LibraryEntry) : Body :=
        .program i e ((List.finRange 16).countP (fun u => s.testers[u].activeHolds e.program))
          ((List.finRange 16).countP (fun u => s.testers[u].stagedHolds e.program))
      (∀ p n i e, programOk p n = true → s.libraryIndex? ⟨p, n⟩ = some i → s.library[i] = some e →
        does (.revision p n) .ok (content i e)) ∧
      (∀ (i : LibIx) e, s.library[i] = some e → (∀ j : LibIx, j < i → s.library[j] = none) →
        does .scanFirst .ok (content i e)) ∧
      (∀ (i : LibIx) e n, n < i.val → s.library[i] = some e → (∀ j : LibIx, n < j.val → j < i → s.library[j] = none) →
        does (.scanAfter n) .ok (content i e)) ∧
      (∀ n, n ≤ 127 → (∀ j : LibIx, n < j.val → s.library[j] = none) → does (.scanAfter n) .empty .nothing)) ∧
    (∀ u : TesterId, s.takes m .testerQuery anyPayload = true →
      exec (.testerQuery m (number u)) s = .next (s.taken.answered m .testerQuery .ok
        (.tester s.testers[u] (s.testers[u].active.map (fun a => s.libraryStateOf a.program))
          (s.testers[u].staged.map (fun g => s.libraryStateOf g.program))))) ∧
    (s.takes m .deviationQuery anyPayload = true →
      exec (.deviationQuery m none) s = .next (s.taken.answered m .deviationQuery .ok
        (.deviationTable (s.deviations.toList.map
          (Option.map (fun e => (e.product, e.step, e.remaining, e.pending)))))) ∧
      (∀ (d : DevId) e, s.deviations[d] = some e →
        exec (.deviationQuery m (some (number d))) s = .next (s.taken.answered m .deviationQuery .ok (.deviation e))) ∧
      (∀ d : DevId, s.deviations[d] = none →
        exec (.deviationQuery m (some (number d))) s = .next (s.taken.answered m .deviationQuery .noSuchEntry .nothing))) ∧
    (s.takes m .partStatus (readsAs readEmpty m.fits ()) = true →
      exec (.partStatus m) s = .next (s.taken.answered m .partStatus .ok
        (.partStatus 4 1 s.resetCause s.lineResets s.floorTime s.link.badFrames s.link.dropped s.link.linkFaults
          { lots := s.lots.length
            products := (List.finRange 64).countP (fun i : ProductIx => s.products[i].state ≠ .free)
            library := (List.finRange 128).countP (fun i : LibIx => (s.library[i]).isSome)
            deviations := (List.finRange 8).countP (fun i : DevId => (s.deviations[i]).isSome)
            releaseQueue := s.releaseQueue.length
            waitingList := s.waitingList.length
            stations := (List.finRange 31).countP (fun i : StationId => s.stations[i].enrolled)
            handlers := (List.finRange 16).countP (fun i : HandlerId => (s.handlers[i].config).isSome) })))) ∧
  (∀ (m : Msg) (h : HandlerId) (s : State) (named : Option Nat),
    named = some (number h) ∨
      (named = none ∧ (s.rolesOf m.sender).has .cell = true ∧ s.stations[m.sender].bound = some h) →
    let x := s.handlers[h]
    (s.takes m .cellStatus anyPayload = true →
      exec (.cellStatus m named (some .status)) s = exec (.cellStatus m named none) s ∧
      exec (.cellStatus m named none) s = .next (s.taken.answered m .cellStatus .ok (.cellStatus
        { cell := x.cell.name, thermal := x.thermal
          currentLot := x.cell.current.bind (fun k => (s.lot? k).map (·.id))
          reservedLot := x.cell.reserved.bind (fun k => (s.lot? k).map (·.id))
          target := x.target.map (·.setpoint), requiredKit := x.requiredKit
          staging := x.docked.map (fun u : TesterId =>
            match s.testers[u].staged with
            | some g => (g.state.name, some g.program)
            | none => (.empty, none))
          stop := x.cell.name = .draining, stalled := x.stalled, sitesEnabled := x.sites
          nextIndex := (s.guards[h]).bind (fun g => g.lastIndex.map (· + 1)) })) ∧
      exec (.cellStatus m named (some .setup)) s = .next (s.taken.answered m .cellStatus .ok (.cellSetup
        { configured := x.config.isSome, capability := (x.config.map (·.capability)).getD 0
          siteCount := x.config.map (·.siteCount), rampRate := x.config.map (·.rampRate)
          stallTime := x.config.map (·.stallTime), lookahead := x.config.map (·.lookahead), bound := x.bound
          docked := x.docked, lock := x.lock, kit := x.kit, setpoint := x.setpoint, target := x.target, soakLeft := x.soakLeft
          stallLeft := x.stallLeft }))) ∧
    (s.takes m .yieldQuery anyPayload = true →
      (s.guards[h] = none →
        exec (.yieldQuery m named .lot) s = .next (s.taken.answered m .yieldQuery .empty .nothing)) ∧
      (∀ g l c, s.guards[h] = some g → s.lot? g.lot = some l → x.config = some c →
        let st := s.stepOf l
        let r := l.cur
        let n := ((List.finRange 8).filter (fun i => c.sitesEnabled.getLsbD i.val)).length
        let fraction (limit fails : Nat) : Option Nat :=
          if limit < 1000 && r.tested ≠ 0 then some (fails * 1000 / r.tested) else none
        exec (.yieldQuery m named .lot) s = .next (s.taken.answered m .yieldQuery .ok (.yieldLot
          { lot := g.lot, run := g.run, cell := x.cell.name, lastIndex := g.lastIndex, nextIndex := g.lastIndex.map (· + 1)
            gapTotal := (l.runInProgress.map (·.gapTotal)).getD 0, tested := r.tested, good := r.good, fails := r.fails
            saturated := r.saturated, armed := r.armed
            cumulative := if r.tested = 0 then none
              else some (r.good * 1000 / r.tested, decide (st.minSample ≤ r.tested))
            ringSize := g.ring.length, ringFails := g.ring.count false
            windowYield := if g.ring.length = st.window then some ((st.window - g.ring.count false) * 1000 / st.window)
              else none
            fractions := ⟨fraction st.groupLimit.a r.fails.a, fraction st.groupLimit.b r.fails.b,
              fraction st.groupLimit.c r.fails.c, fraction st.groupLimit.d r.fails.d⟩ })) ∧
        (∀ first, first = 1 ∨ (first = 5 ∧ 5 ≤ c.siteCount) →
          exec (.yieldQuery m named (.sites first)) s = .next (s.taken.answered m .yieldQuery .ok
            (.yieldSites c.siteCount c.sitesEnabled n (max 1 (st.minSample / n))
              (((List.finRange 8).filter (fun i => first ≤ i.val + 1 && i.val + 1 < first + 4 && i.val < c.siteCount)).map
                (fun i =>
                  { site := i, enabled := c.sitesEnabled.getLsbD i.val, tested := g.sites[i].tested, good := g.sites[i].good
                    yield := if g.sites[i].tested = 0 then none else some (g.sites[i].good * 1000 / g.sites[i].tested)
                    gap := siteGap? st.minSample c.sitesEnabled g.sites i }))))) ∧
        (c.siteCount < 5 →
          exec (.yieldQuery m named (.sites 5)) s = .next (s.taken.answered m .yieldQuery .noSuchEntry .nothing)))))

/-! ### What every event keeps -/

/-- What each table's entries change by: whatever a command does besides, products change only by PRODUCT_DEFINE and
PRODUCT_REMOVE, the library only by the three program requests, settings by DISPATCH_CONFIG, floor time by the tick and
TIME_SET, docking, locks, binding, enrolment, configuration and kits only by theirs, lots come only by LOT_REGISTER and go only
by LOT_PURGE and SHIP_COLLECT, a stamp is given only by the requests that queue a lot, and a release-waiting stamp only by
LOT_ENDORSE.  A deviation entry is written by DEVIATION_SET, DEVIATION_CLEAR and LOT_BEGIN, and its pending count besides by what
makes or cancels a reservation; a guard's run by LOT_BEGIN, TOUCHDOWN, SITE_ENABLE, LOT_END, DRAINED and a line reset; and the
release queue, on a floor that is consistent, by LOT_ENDORSE, SHIP_COLLECT and LOT_HOLD.  A power-on alone changes
everything. -/
def Obligations.TablesChangeOnlyByTheirCommands : Prop :=
  ∀ (c : Instr) (s t : State), exec c s = .next t → (∀ a b, c ≠ .powerOnReset a b) →
    let only (ks : List Kind) : Prop := ∃ k m, c.request? = some (k, m) ∧ k ∈ ks
    (t.products ≠ s.products → only [.productDefine, .productRemove]) ∧
    (t.library ≠ s.library → only [.programDefine, .programWithdraw, .programRemove]) ∧
    (t.settings ≠ s.settings → only [.dispatchConfig]) ∧
    (t.floorTime ≠ s.floorTime → c = .secondTick ∨ only [.timeSet]) ∧
    (t.lineResets ≠ s.lineResets ∨ t.resetCause ≠ s.resetCause → c = .lineReset) ∧
    (∀ h : HandlerId,
      (t.handlers[h].docked ≠ s.handlers[h].docked → only [.dock, .undock]) ∧
      (t.handlers[h].lock ≠ s.handlers[h].lock → only [.handlerLock, .handlerUnlock]) ∧
      (t.handlers[h].bound ≠ s.handlers[h].bound → only [.stationEnroll, .stationRemove]) ∧
      (t.handlers[h].config ≠ s.handlers[h].config → only [.handlerConfig, .siteEnable, .touchdown]) ∧
      (t.handlers[h].kit ≠ s.handlers[h].kit → only [.kitInstalled])) ∧
    (∀ u : TesterId,
      (t.testers[u].configured ≠ s.testers[u].configured → only [.testerConfig]) ∧
      (t.testers[u].docked ≠ s.testers[u].docked → only [.dock, .undock]) ∧
      (t.testers[u].active ≠ s.testers[u].active → only [.testerConfig, .lotBegin, .programWithdraw])) ∧
    (∀ i : StationId,
      (t.stations[i].enrolled ≠ s.stations[i].enrolled → only [.stationEnroll, .stationRemove]) ∧
      (t.stations[i].bound ≠ s.stations[i].bound → only [.stationEnroll, .stationRemove]) ∧
      (t.stations[i].roles ≠ s.stations[i].roles → only [.stationEnroll, .stationRemove]) ∧
      (t.stations[i].mask ≠ s.stations[i].mask → only [.stationEnroll, .stationRemove, .attentionMask])) ∧
    ((∃ l ∈ t.lots, ∀ x ∈ s.lots, x.id ≠ l.id) → only [.lotRegister]) ∧
    ((∃ l ∈ s.lots, ∀ x ∈ t.lots, x.id ≠ l.id) → only [.lotPurge, .shipCollect]) ∧
    (t.stampCounter ≠ s.stampCounter →
      t.stampCounter = min 4294967295 (s.stampCounter + 1) ∧ only [.lotRegister, .lotEnd, .lotDispose]) ∧
    (t.waitingCounter ≠ s.waitingCounter →
      t.waitingCounter = min 4294967295 (s.waitingCounter + 1) ∧ only [.lotEndorse]) ∧
    (∀ d : DevId,
      ((t.deviations[d]).map (fun e => { e with pending := 0 }) ≠ (s.deviations[d]).map (fun e => { e with pending := 0 }) →
        only [.deviationSet, .deviationClear, .lotBegin]) ∧
      (t.deviations[d] ≠ s.deviations[d] →
        c = .lineReset ∨ (∃ k, c = .queueTimeExpiry k) ∨ (∃ u, c = .stagingDeadlineExpiry u) ∨
        only [.deviationSet, .deviationClear, .lotBegin, .callWork, .touchdown, .lotHold, .handlerOffline, .stageAbort,
          .programLoaded, .programWithdraw, .tempLost])) ∧
    (∀ h : HandlerId, t.guards[h] ≠ s.guards[h] →
      c = .lineReset ∨ only [.lotBegin, .touchdown, .siteEnable, .lotEnd, .drained]) ∧
    (s.Consistent → t.releaseQueue ≠ s.releaseQueue → only [.lotEndorse, .shipCollect, .lotHold])

/-- At power-on every condition that the events keep holds. -/
def Obligations.ConditionsHoldAtReset : Prop :=
  State.reset.DockingMutual ∧ State.reset.BindingMutual ∧ State.reset.FirstStation ∧ State.reset.MarksInMasks ∧
  State.reset.CountersInRange ∧ State.reset.CountsAgree ∧ State.reset.DeviationsCovered ∧ State.reset.PendingCounts ∧
  State.reset.LetGoByRoles ∧ State.reset.Consistent

/-- Docking and binding are mirrored in both records by every step: a handler names a tester exactly when the tester names
it, and a station a handler exactly when the handler names it. -/
def Obligations.StepKeepsMirrors : Prop :=
  ∀ s t : State, step s = .next t →
    (s.DockingMutual → t.DockingMutual) ∧ (s.BindingMutual → t.BindingMutual)

/-- Station 1 stays enrolled with SUPERVISOR and FLOOR, and every station's attention set stays within its mask, its mask
within the kinds its roles receive, with one mark per kind in code order. -/
def Obligations.StepKeepsStations : Prop :=
  ∀ s t : State, step s = .next t → (s.FirstStation → t.FirstStation) ∧ (s.MarksInMasks → t.MarksInMasks)

/-- The queues of the Link Interface never pass 4 entries and no counter its maximum; in every step record good and the four
fail counts make up tested, which never passes 16,777,215.  No deviation entry has more lots pending than uses remaining, so
that the lots that begin under it cannot exceed its count; and on a consistent floor the pending count of every entry equals
the number of RESERVED lots whose resolved program names it. -/
def Obligations.StepKeepsCounts : Prop :=
  (∀ s t : State, step s = .next t → (s.CountersInRange → t.CountersInRange) ∧ (s.CountsAgree → t.CountsAgree)) ∧
  (∀ s t : State, step s = .next t → s.DeviationsCovered → t.DeviationsCovered) ∧
  (∀ s t : State, step s = .next t → s.Consistent → s.DeviationsCovered → s.PendingCounts → t.PendingCounts)

/-- No lot is let go alone: a lot is RELEASED, or waits for release, only while distinct stations' endorsements cover
QUALITY, DOCK and, where it ran under a deviation or a waiver, ENGINEERING. -/
def Obligations.StepKeepsLetGoByRoles : Prop :=
  ∀ s t : State, step s = .next t → s.LetGoByRoles → t.LetGoByRoles

/-- The floor stays consistent: lots and cells agree about who holds whom, a lot with a hold is DRAINING or HELD, and the
release queue holds exactly the RELEASED lots, at most 32, and 32 whenever a lot waits for a place in it. -/
def Obligations.StepKeepsConsistent : Prop :=
  ∀ s t : State, step s = .next t → s.Consistent → t.Consistent
end

