-- ==== Sys2Proof/Laws/Tables.lean ====
section
/-! SUPPORT. Laws/Tables.lean: reading a table after it has been built or changed, and the searches over indexes. -/

namespace Sys2Proof.Machine

/-! ### Fixed tables -/

@[simp] theorem vecMap_getElem {α β : Type} {n : Nat} (f : α → β) (v : Vector α n) (i : Nat) (h : i < n) :
    (vecMap f v)[i] = f v[i] := by
  simp [vecMap]

@[simp] theorem vecMap_getElem_fin {α β : Type} {n : Nat} (f : α → β) (v : Vector α n) (i : Fin n) :
    (vecMap f v)[i] = f v[i] := by
  simp [vecMap]

@[simp] theorem vecOfFn_getElem_fin {α : Type} {n : Nat} (f : Fin n → α) (i : Fin n) : (vecOfFn f)[i] = f i := by
  simp [vecOfFn]

theorem set_getElem_fin {α : Type} {n : Nat} (v : Vector α n) (i j : Fin n) (a : α) :
    (v.set i a)[j] = if i = j then a else v[j] := by
  simp only [Fin.getElem_fin, Vector.getElem_set, Fin.ext_iff]

@[simp] theorem set_getElem_self {α : Type} {n : Nat} (v : Vector α n) (i : Fin n) (a : α) : (v.set i a)[i] = a := by
  simp

theorem set_getElem_ne {α : Type} {n : Nat} (v : Vector α n) {i j : Fin n} (h : i ≠ j) (a : α) : (v.set i a)[j] = v[j] := by
  rw [set_getElem_fin, if_neg h]

/-! ### Searches -/

theorem lowestIndex_some {n : Nat} {p : Fin n → Bool} {i : Fin n} (h : lowestIndex p = some i) : p i = true :=
  List.find?_some h

theorem lowestIndex_none {n : Nat} {p : Fin n → Bool} : lowestIndex p = none ↔ ∀ i, p i = false := by
  simp [lowestIndex, List.find?_eq_none]

/-- No index below the one found satisfies the condition. -/
theorem lowestIndex_least {n : Nat} {p : Fin n → Bool} {i j : Fin n} (h : lowestIndex p = some i) (hj : p j = true) :
    i ≤ j := by
  unfold lowestIndex at h
  rw [List.find?_eq_some_iff_append] at h
  obtain ⟨-, as, bs, happ, hno⟩ := h
  by_contra hlt
  have hlt : j < i := lt_of_not_ge hlt
  have hsort : (List.finRange n).Pairwise (· < ·) := List.pairwise_lt_finRange n
  have hmem : j ∈ List.finRange n := List.mem_finRange j
  rw [happ] at hsort hmem
  rcases List.mem_append.1 hmem with hin | hin
  · simpa [hj] using hno j hin
  · rw [List.pairwise_append] at hsort
    rcases List.mem_cons.1 hin with rfl | hin
    · exact lt_irrefl _ hlt
    · exact lt_asymm hlt (List.rel_of_pairwise_cons hsort.2.1 hin)

theorem indexOfNumber?_number {n : Nat} (i : Fin n) : indexOfNumber? (number i) n = some i := by
  simp [indexOfNumber?, number, i.isLt]

theorem indexOfNumber?_some {k n : Nat} {i : Fin n} (h : indexOfNumber? k n = some i) : k = number i := by
  unfold indexOfNumber? at h
  split at h
  · cases h; simp [number]; omega
  · cases h

/-! ### Lots -/

theorem State.lot?_mem {s : State} {k : Slot} {l : Lot} (h : s.lot? k = some l) : l ∈ s.lots :=
  List.mem_of_find?_eq_some h

theorem State.lot?_slot {s : State} {k : Slot} {l : Lot} (h : s.lot? k = some l) : l.slot = k := by
  simpa using List.find?_some h

theorem State.lotNamed?_mem {s : State} {t : Text} {l : Lot} (h : s.lotNamed? t = some l) : l ∈ s.lots :=
  List.mem_of_find?_eq_some h

theorem State.lotNamed?_id {s : State} {t : Text} {l : Lot} (h : s.lotNamed? t = some l) : l.id = t := by
  simpa using List.find?_some h

/-- In slot order a lot is the one its slot reads. -/
theorem State.lot?_of_mem {s : State} {l : Lot} (hs : s.lots.Pairwise (fun a b => a.slot < b.slot)) (hl : l ∈ s.lots) :
    s.lot? l.slot = some l := by
  unfold State.lot?
  generalize s.lots = ls at hs hl
  induction ls with
  | nil => cases hl
  | cons x xs ih =>
    rcases List.mem_cons.1 hl with rfl | hm
    · simp
    · have hlt : x.slot < l.slot := List.rel_of_pairwise_cons hs hm
      rw [List.find?_cons_of_neg (by simpa using ne_of_lt hlt)]
      exact ih (List.Pairwise.of_cons hs) hm

/-- The lot of the changed slot, read after an update that keeps slots. -/
theorem State.lot?_updLot_self {s : State} {k : Slot} {f : Lot → Lot} {l : Lot} (h : s.lot? k = some l)
    (hf : ∀ x : Lot, (f x).slot = x.slot) : (s.updLot k f).lot? k = some (f l) := by
  unfold State.lot? at h ⊢
  simp only [State.updLot]
  generalize s.lots = ls at h
  induction ls with
  | nil => cases h
  | cons x xs ih =>
    by_cases hx : x.slot = k
    · simp [hx] at h; subst h; simp [hx, hf]
    · rw [List.find?_cons_of_neg (by simpa using hx)] at h
      rw [List.map_cons, if_neg hx, List.find?_cons_of_neg (by simpa using hx)]
      exact ih h

/-- Every other lot is read unchanged after an update. -/
theorem State.lot?_updLot_ne {s : State} {j k : Slot} {f : Lot → Lot} (hjk : j ≠ k) (hf : ∀ x : Lot, (f x).slot = x.slot) :
    (s.updLot k f).lot? j = s.lot? j := by
  unfold State.lot?
  simp only [State.updLot]
  generalize s.lots = ls
  induction ls with
  | nil => rfl
  | cons x xs ih =>
    by_cases hx : x.slot = k
    · have hne : (f x).slot ≠ j := by rw [hf, hx]; exact Ne.symm hjk
      have hne' : x.slot ≠ j := by rw [hx]; exact Ne.symm hjk
      rw [List.map_cons, if_pos hx, List.find?_cons_of_neg (by simpa using hne),
        List.find?_cons_of_neg (by simpa using hne'), ih]
    · rw [List.map_cons, if_neg hx, List.find?_cons, List.find?_cons, ih]

/-- An update that keeps slots keeps their order. -/
theorem State.updLot_slots (s : State) (k : Slot) {f : Lot → Lot} (hf : ∀ x : Lot, (f x).slot = x.slot) :
    (s.updLot k f).lots.map (·.slot) = s.lots.map (·.slot) := by
  simp only [State.updLot, List.map_map]
  refine List.map_congr_left (fun x _ => ?_)
  by_cases hx : x.slot = k <;> simp [hx, hf]

end Sys2Proof.Machine
end

