-- ==== Sys2Proof/Laws/State.lean ====
section
/-! SUPPORT. Laws/State.lean: one lemma per field per update: what a changed record reads as, field by field. -/

namespace Sys2Proof.Machine

/-! ### updHandler -/

@[simp] theorem State.updHandler_lots (s : State) (h : HandlerId) (f : Handler → Handler) :
    (s.updHandler h f).lots = s.lots := rfl
@[simp] theorem State.updHandler_products (s : State) (h : HandlerId) (f : Handler → Handler) :
    (s.updHandler h f).products = s.products := rfl
@[simp] theorem State.updHandler_library (s : State) (h : HandlerId) (f : Handler → Handler) :
    (s.updHandler h f).library = s.library := rfl
@[simp] theorem State.updHandler_handlers (s : State) (h : HandlerId) (f : Handler → Handler) :
    (s.updHandler h f).handlers = s.handlers.set h (f s.handlers[h]) := rfl
@[simp] theorem State.updHandler_testers (s : State) (h : HandlerId) (f : Handler → Handler) :
    (s.updHandler h f).testers = s.testers := rfl
@[simp] theorem State.updHandler_deviations (s : State) (h : HandlerId) (f : Handler → Handler) :
    (s.updHandler h f).deviations = s.deviations := rfl
@[simp] theorem State.updHandler_guards (s : State) (h : HandlerId) (f : Handler → Handler) :
    (s.updHandler h f).guards = s.guards := rfl
@[simp] theorem State.updHandler_stations (s : State) (h : HandlerId) (f : Handler → Handler) :
    (s.updHandler h f).stations = s.stations := rfl
@[simp] theorem State.updHandler_settings (s : State) (h : HandlerId) (f : Handler → Handler) :
    (s.updHandler h f).settings = s.settings := rfl
@[simp] theorem State.updHandler_stampCounter (s : State) (h : HandlerId) (f : Handler → Handler) :
    (s.updHandler h f).stampCounter = s.stampCounter := rfl
@[simp] theorem State.updHandler_releaseQueue (s : State) (h : HandlerId) (f : Handler → Handler) :
    (s.updHandler h f).releaseQueue = s.releaseQueue := rfl
@[simp] theorem State.updHandler_waitingCounter (s : State) (h : HandlerId) (f : Handler → Handler) :
    (s.updHandler h f).waitingCounter = s.waitingCounter := rfl
@[simp] theorem State.updHandler_floorTime (s : State) (h : HandlerId) (f : Handler → Handler) :
    (s.updHandler h f).floorTime = s.floorTime := rfl
@[simp] theorem State.updHandler_divider (s : State) (h : HandlerId) (f : Handler → Handler) :
    (s.updHandler h f).divider = s.divider := rfl
@[simp] theorem State.updHandler_link (s : State) (h : HandlerId) (f : Handler → Handler) :
    (s.updHandler h f).link = s.link := rfl
@[simp] theorem State.updHandler_resetCause (s : State) (h : HandlerId) (f : Handler → Handler) :
    (s.updHandler h f).resetCause = s.resetCause := rfl
@[simp] theorem State.updHandler_lineResets (s : State) (h : HandlerId) (f : Handler → Handler) :
    (s.updHandler h f).lineResets = s.lineResets := rfl
@[simp] theorem State.updHandler_inReset (s : State) (h : HandlerId) (f : Handler → Handler) :
    (s.updHandler h f).inReset = s.inReset := rfl
@[simp] theorem State.updHandler_pending (s : State) (h : HandlerId) (f : Handler → Handler) :
    (s.updHandler h f).pending = s.pending := rfl

/-! ### updTester -/

@[simp] theorem State.updTester_lots (s : State) (t : TesterId) (f : Tester → Tester) :
    (s.updTester t f).lots = s.lots := rfl
@[simp] theorem State.updTester_products (s : State) (t : TesterId) (f : Tester → Tester) :
    (s.updTester t f).products = s.products := rfl
@[simp] theorem State.updTester_library (s : State) (t : TesterId) (f : Tester → Tester) :
    (s.updTester t f).library = s.library := rfl
@[simp] theorem State.updTester_handlers (s : State) (t : TesterId) (f : Tester → Tester) :
    (s.updTester t f).handlers = s.handlers := rfl
@[simp] theorem State.updTester_testers (s : State) (t : TesterId) (f : Tester → Tester) :
    (s.updTester t f).testers = s.testers.set t (f s.testers[t]) := rfl
@[simp] theorem State.updTester_deviations (s : State) (t : TesterId) (f : Tester → Tester) :
    (s.updTester t f).deviations = s.deviations := rfl
@[simp] theorem State.updTester_guards (s : State) (t : TesterId) (f : Tester → Tester) :
    (s.updTester t f).guards = s.guards := rfl
@[simp] theorem State.updTester_stations (s : State) (t : TesterId) (f : Tester → Tester) :
    (s.updTester t f).stations = s.stations := rfl
@[simp] theorem State.updTester_settings (s : State) (t : TesterId) (f : Tester → Tester) :
    (s.updTester t f).settings = s.settings := rfl
@[simp] theorem State.updTester_stampCounter (s : State) (t : TesterId) (f : Tester → Tester) :
    (s.updTester t f).stampCounter = s.stampCounter := rfl
@[simp] theorem State.updTester_releaseQueue (s : State) (t : TesterId) (f : Tester → Tester) :
    (s.updTester t f).releaseQueue = s.releaseQueue := rfl
@[simp] theorem State.updTester_waitingCounter (s : State) (t : TesterId) (f : Tester → Tester) :
    (s.updTester t f).waitingCounter = s.waitingCounter := rfl
@[simp] theorem State.updTester_floorTime (s : State) (t : TesterId) (f : Tester → Tester) :
    (s.updTester t f).floorTime = s.floorTime := rfl
@[simp] theorem State.updTester_divider (s : State) (t : TesterId) (f : Tester → Tester) :
    (s.updTester t f).divider = s.divider := rfl
@[simp] theorem State.updTester_link (s : State) (t : TesterId) (f : Tester → Tester) :
    (s.updTester t f).link = s.link := rfl
@[simp] theorem State.updTester_resetCause (s : State) (t : TesterId) (f : Tester → Tester) :
    (s.updTester t f).resetCause = s.resetCause := rfl
@[simp] theorem State.updTester_lineResets (s : State) (t : TesterId) (f : Tester → Tester) :
    (s.updTester t f).lineResets = s.lineResets := rfl
@[simp] theorem State.updTester_inReset (s : State) (t : TesterId) (f : Tester → Tester) :
    (s.updTester t f).inReset = s.inReset := rfl
@[simp] theorem State.updTester_pending (s : State) (t : TesterId) (f : Tester → Tester) :
    (s.updTester t f).pending = s.pending := rfl

/-! ### updStation -/

@[simp] theorem State.updStation_lots (s : State) (i : StationId) (f : Station → Station) :
    (s.updStation i f).lots = s.lots := rfl
@[simp] theorem State.updStation_products (s : State) (i : StationId) (f : Station → Station) :
    (s.updStation i f).products = s.products := rfl
@[simp] theorem State.updStation_library (s : State) (i : StationId) (f : Station → Station) :
    (s.updStation i f).library = s.library := rfl
@[simp] theorem State.updStation_handlers (s : State) (i : StationId) (f : Station → Station) :
    (s.updStation i f).handlers = s.handlers := rfl
@[simp] theorem State.updStation_testers (s : State) (i : StationId) (f : Station → Station) :
    (s.updStation i f).testers = s.testers := rfl
@[simp] theorem State.updStation_deviations (s : State) (i : StationId) (f : Station → Station) :
    (s.updStation i f).deviations = s.deviations := rfl
@[simp] theorem State.updStation_guards (s : State) (i : StationId) (f : Station → Station) :
    (s.updStation i f).guards = s.guards := rfl
@[simp] theorem State.updStation_stations (s : State) (i : StationId) (f : Station → Station) :
    (s.updStation i f).stations = s.stations.set i (f s.stations[i]) := rfl
@[simp] theorem State.updStation_settings (s : State) (i : StationId) (f : Station → Station) :
    (s.updStation i f).settings = s.settings := rfl
@[simp] theorem State.updStation_stampCounter (s : State) (i : StationId) (f : Station → Station) :
    (s.updStation i f).stampCounter = s.stampCounter := rfl
@[simp] theorem State.updStation_releaseQueue (s : State) (i : StationId) (f : Station → Station) :
    (s.updStation i f).releaseQueue = s.releaseQueue := rfl
@[simp] theorem State.updStation_waitingCounter (s : State) (i : StationId) (f : Station → Station) :
    (s.updStation i f).waitingCounter = s.waitingCounter := rfl
@[simp] theorem State.updStation_floorTime (s : State) (i : StationId) (f : Station → Station) :
    (s.updStation i f).floorTime = s.floorTime := rfl
@[simp] theorem State.updStation_divider (s : State) (i : StationId) (f : Station → Station) :
    (s.updStation i f).divider = s.divider := rfl
@[simp] theorem State.updStation_link (s : State) (i : StationId) (f : Station → Station) :
    (s.updStation i f).link = s.link := rfl
@[simp] theorem State.updStation_resetCause (s : State) (i : StationId) (f : Station → Station) :
    (s.updStation i f).resetCause = s.resetCause := rfl
@[simp] theorem State.updStation_lineResets (s : State) (i : StationId) (f : Station → Station) :
    (s.updStation i f).lineResets = s.lineResets := rfl
@[simp] theorem State.updStation_inReset (s : State) (i : StationId) (f : Station → Station) :
    (s.updStation i f).inReset = s.inReset := rfl
@[simp] theorem State.updStation_pending (s : State) (i : StationId) (f : Station → Station) :
    (s.updStation i f).pending = s.pending := rfl

/-! ### updDeviation -/

@[simp] theorem State.updDeviation_lots (s : State) (d : DevId) (f : Option Deviation → Option Deviation) :
    (s.updDeviation d f).lots = s.lots := rfl
@[simp] theorem State.updDeviation_products (s : State) (d : DevId) (f : Option Deviation → Option Deviation) :
    (s.updDeviation d f).products = s.products := rfl
@[simp] theorem State.updDeviation_library (s : State) (d : DevId) (f : Option Deviation → Option Deviation) :
    (s.updDeviation d f).library = s.library := rfl
@[simp] theorem State.updDeviation_handlers (s : State) (d : DevId) (f : Option Deviation → Option Deviation) :
    (s.updDeviation d f).handlers = s.handlers := rfl
@[simp] theorem State.updDeviation_testers (s : State) (d : DevId) (f : Option Deviation → Option Deviation) :
    (s.updDeviation d f).testers = s.testers := rfl
@[simp] theorem State.updDeviation_deviations (s : State) (d : DevId) (f : Option Deviation → Option Deviation) :
    (s.updDeviation d f).deviations = s.deviations.set d (f s.deviations[d]) := rfl
@[simp] theorem State.updDeviation_guards (s : State) (d : DevId) (f : Option Deviation → Option Deviation) :
    (s.updDeviation d f).guards = s.guards := rfl
@[simp] theorem State.updDeviation_stations (s : State) (d : DevId) (f : Option Deviation → Option Deviation) :
    (s.updDeviation d f).stations = s.stations := rfl
@[simp] theorem State.updDeviation_settings (s : State) (d : DevId) (f : Option Deviation → Option Deviation) :
    (s.updDeviation d f).settings = s.settings := rfl
@[simp] theorem State.updDeviation_stampCounter (s : State) (d : DevId) (f : Option Deviation → Option Deviation) :
    (s.updDeviation d f).stampCounter = s.stampCounter := rfl
@[simp] theorem State.updDeviation_releaseQueue (s : State) (d : DevId) (f : Option Deviation → Option Deviation) :
    (s.updDeviation d f).releaseQueue = s.releaseQueue := rfl
@[simp] theorem State.updDeviation_waitingCounter (s : State) (d : DevId) (f : Option Deviation → Option Deviation) :
    (s.updDeviation d f).waitingCounter = s.waitingCounter := rfl
@[simp] theorem State.updDeviation_floorTime (s : State) (d : DevId) (f : Option Deviation → Option Deviation) :
    (s.updDeviation d f).floorTime = s.floorTime := rfl
@[simp] theorem State.updDeviation_divider (s : State) (d : DevId) (f : Option Deviation → Option Deviation) :
    (s.updDeviation d f).divider = s.divider := rfl
@[simp] theorem State.updDeviation_link (s : State) (d : DevId) (f : Option Deviation → Option Deviation) :
    (s.updDeviation d f).link = s.link := rfl
@[simp] theorem State.updDeviation_resetCause (s : State) (d : DevId) (f : Option Deviation → Option Deviation) :
    (s.updDeviation d f).resetCause = s.resetCause := rfl
@[simp] theorem State.updDeviation_lineResets (s : State) (d : DevId) (f : Option Deviation → Option Deviation) :
    (s.updDeviation d f).lineResets = s.lineResets := rfl
@[simp] theorem State.updDeviation_inReset (s : State) (d : DevId) (f : Option Deviation → Option Deviation) :
    (s.updDeviation d f).inReset = s.inReset := rfl
@[simp] theorem State.updDeviation_pending (s : State) (d : DevId) (f : Option Deviation → Option Deviation) :
    (s.updDeviation d f).pending = s.pending := rfl

/-! ### updLot -/

@[simp] theorem State.updLot_lots (s : State) (k : Slot) (f : Lot → Lot) :
    (s.updLot k f).lots = s.lots.map (fun l => if l.slot = k then f l else l) := rfl
@[simp] theorem State.updLot_products (s : State) (k : Slot) (f : Lot → Lot) :
    (s.updLot k f).products = s.products := rfl
@[simp] theorem State.updLot_library (s : State) (k : Slot) (f : Lot → Lot) :
    (s.updLot k f).library = s.library := rfl
@[simp] theorem State.updLot_handlers (s : State) (k : Slot) (f : Lot → Lot) :
    (s.updLot k f).handlers = s.handlers := rfl
@[simp] theorem State.updLot_testers (s : State) (k : Slot) (f : Lot → Lot) :
    (s.updLot k f).testers = s.testers := rfl
@[simp] theorem State.updLot_deviations (s : State) (k : Slot) (f : Lot → Lot) :
    (s.updLot k f).deviations = s.deviations := rfl
@[simp] theorem State.updLot_guards (s : State) (k : Slot) (f : Lot → Lot) :
    (s.updLot k f).guards = s.guards := rfl
@[simp] theorem State.updLot_stations (s : State) (k : Slot) (f : Lot → Lot) :
    (s.updLot k f).stations = s.stations := rfl
@[simp] theorem State.updLot_settings (s : State) (k : Slot) (f : Lot → Lot) :
    (s.updLot k f).settings = s.settings := rfl
@[simp] theorem State.updLot_stampCounter (s : State) (k : Slot) (f : Lot → Lot) :
    (s.updLot k f).stampCounter = s.stampCounter := rfl
@[simp] theorem State.updLot_releaseQueue (s : State) (k : Slot) (f : Lot → Lot) :
    (s.updLot k f).releaseQueue = s.releaseQueue := rfl
@[simp] theorem State.updLot_waitingCounter (s : State) (k : Slot) (f : Lot → Lot) :
    (s.updLot k f).waitingCounter = s.waitingCounter := rfl
@[simp] theorem State.updLot_floorTime (s : State) (k : Slot) (f : Lot → Lot) :
    (s.updLot k f).floorTime = s.floorTime := rfl
@[simp] theorem State.updLot_divider (s : State) (k : Slot) (f : Lot → Lot) :
    (s.updLot k f).divider = s.divider := rfl
@[simp] theorem State.updLot_link (s : State) (k : Slot) (f : Lot → Lot) :
    (s.updLot k f).link = s.link := rfl
@[simp] theorem State.updLot_resetCause (s : State) (k : Slot) (f : Lot → Lot) :
    (s.updLot k f).resetCause = s.resetCause := rfl
@[simp] theorem State.updLot_lineResets (s : State) (k : Slot) (f : Lot → Lot) :
    (s.updLot k f).lineResets = s.lineResets := rfl
@[simp] theorem State.updLot_inReset (s : State) (k : Slot) (f : Lot → Lot) :
    (s.updLot k f).inReset = s.inReset := rfl
@[simp] theorem State.updLot_pending (s : State) (k : Slot) (f : Lot → Lot) :
    (s.updLot k f).pending = s.pending := rfl

/-! ### setLotState -/

@[simp] theorem State.setLotState_lots (s : State) (k : Slot) (x : LotState) :
    (s.setLotState k x).lots = s.lots.map (fun l => if l.slot = k then { l with state := x } else l) := rfl
@[simp] theorem State.setLotState_products (s : State) (k : Slot) (x : LotState) :
    (s.setLotState k x).products = s.products := rfl
@[simp] theorem State.setLotState_library (s : State) (k : Slot) (x : LotState) :
    (s.setLotState k x).library = s.library := rfl
@[simp] theorem State.setLotState_handlers (s : State) (k : Slot) (x : LotState) :
    (s.setLotState k x).handlers = s.handlers := rfl
@[simp] theorem State.setLotState_testers (s : State) (k : Slot) (x : LotState) :
    (s.setLotState k x).testers = s.testers := rfl
@[simp] theorem State.setLotState_deviations (s : State) (k : Slot) (x : LotState) :
    (s.setLotState k x).deviations = s.deviations := rfl
@[simp] theorem State.setLotState_guards (s : State) (k : Slot) (x : LotState) :
    (s.setLotState k x).guards = s.guards := rfl
@[simp] theorem State.setLotState_stations (s : State) (k : Slot) (x : LotState) :
    (s.setLotState k x).stations = s.stations := rfl
@[simp] theorem State.setLotState_settings (s : State) (k : Slot) (x : LotState) :
    (s.setLotState k x).settings = s.settings := rfl
@[simp] theorem State.setLotState_stampCounter (s : State) (k : Slot) (x : LotState) :
    (s.setLotState k x).stampCounter = s.stampCounter := rfl
@[simp] theorem State.setLotState_releaseQueue (s : State) (k : Slot) (x : LotState) :
    (s.setLotState k x).releaseQueue = s.releaseQueue := rfl
@[simp] theorem State.setLotState_waitingCounter (s : State) (k : Slot) (x : LotState) :
    (s.setLotState k x).waitingCounter = s.waitingCounter := rfl
@[simp] theorem State.setLotState_floorTime (s : State) (k : Slot) (x : LotState) :
    (s.setLotState k x).floorTime = s.floorTime := rfl
@[simp] theorem State.setLotState_divider (s : State) (k : Slot) (x : LotState) :
    (s.setLotState k x).divider = s.divider := rfl
@[simp] theorem State.setLotState_link (s : State) (k : Slot) (x : LotState) :
    (s.setLotState k x).link = s.link := rfl
@[simp] theorem State.setLotState_resetCause (s : State) (k : Slot) (x : LotState) :
    (s.setLotState k x).resetCause = s.resetCause := rfl
@[simp] theorem State.setLotState_lineResets (s : State) (k : Slot) (x : LotState) :
    (s.setLotState k x).lineResets = s.lineResets := rfl
@[simp] theorem State.setLotState_inReset (s : State) (k : Slot) (x : LotState) :
    (s.setLotState k x).inReset = s.inReset := rfl
@[simp] theorem State.setLotState_pending (s : State) (k : Slot) (x : LotState) :
    (s.setLotState k x).pending = s.pending := rfl

/-! ### addLot -/

@[simp] theorem State.addLot_lots (s : State) (l : Lot) :
    (s.addLot l).lots = insertLot l s.lots := rfl
@[simp] theorem State.addLot_products (s : State) (l : Lot) :
    (s.addLot l).products = s.products := rfl
@[simp] theorem State.addLot_library (s : State) (l : Lot) :
    (s.addLot l).library = s.library := rfl
@[simp] theorem State.addLot_handlers (s : State) (l : Lot) :
    (s.addLot l).handlers = s.handlers := rfl
@[simp] theorem State.addLot_testers (s : State) (l : Lot) :
    (s.addLot l).testers = s.testers := rfl
@[simp] theorem State.addLot_deviations (s : State) (l : Lot) :
    (s.addLot l).deviations = s.deviations := rfl
@[simp] theorem State.addLot_guards (s : State) (l : Lot) :
    (s.addLot l).guards = s.guards := rfl
@[simp] theorem State.addLot_stations (s : State) (l : Lot) :
    (s.addLot l).stations = s.stations := rfl
@[simp] theorem State.addLot_settings (s : State) (l : Lot) :
    (s.addLot l).settings = s.settings := rfl
@[simp] theorem State.addLot_stampCounter (s : State) (l : Lot) :
    (s.addLot l).stampCounter = s.stampCounter := rfl
@[simp] theorem State.addLot_releaseQueue (s : State) (l : Lot) :
    (s.addLot l).releaseQueue = s.releaseQueue := rfl
@[simp] theorem State.addLot_waitingCounter (s : State) (l : Lot) :
    (s.addLot l).waitingCounter = s.waitingCounter := rfl
@[simp] theorem State.addLot_floorTime (s : State) (l : Lot) :
    (s.addLot l).floorTime = s.floorTime := rfl
@[simp] theorem State.addLot_divider (s : State) (l : Lot) :
    (s.addLot l).divider = s.divider := rfl
@[simp] theorem State.addLot_link (s : State) (l : Lot) :
    (s.addLot l).link = s.link := rfl
@[simp] theorem State.addLot_resetCause (s : State) (l : Lot) :
    (s.addLot l).resetCause = s.resetCause := rfl
@[simp] theorem State.addLot_lineResets (s : State) (l : Lot) :
    (s.addLot l).lineResets = s.lineResets := rfl
@[simp] theorem State.addLot_inReset (s : State) (l : Lot) :
    (s.addLot l).inReset = s.inReset := rfl
@[simp] theorem State.addLot_pending (s : State) (l : Lot) :
    (s.addLot l).pending = s.pending := rfl

/-! ### dropLot -/

@[simp] theorem State.dropLot_lots (s : State) (k : Slot) :
    (s.dropLot k).lots = s.lots.filter (fun l => l.slot ≠ k) := rfl
@[simp] theorem State.dropLot_products (s : State) (k : Slot) :
    (s.dropLot k).products = s.products := rfl
@[simp] theorem State.dropLot_library (s : State) (k : Slot) :
    (s.dropLot k).library = s.library := rfl
@[simp] theorem State.dropLot_handlers (s : State) (k : Slot) :
    (s.dropLot k).handlers = s.handlers := rfl
@[simp] theorem State.dropLot_testers (s : State) (k : Slot) :
    (s.dropLot k).testers = s.testers := rfl
@[simp] theorem State.dropLot_deviations (s : State) (k : Slot) :
    (s.dropLot k).deviations = s.deviations := rfl
@[simp] theorem State.dropLot_guards (s : State) (k : Slot) :
    (s.dropLot k).guards = s.guards := rfl
@[simp] theorem State.dropLot_stations (s : State) (k : Slot) :
    (s.dropLot k).stations = s.stations := rfl
@[simp] theorem State.dropLot_settings (s : State) (k : Slot) :
    (s.dropLot k).settings = s.settings := rfl
@[simp] theorem State.dropLot_stampCounter (s : State) (k : Slot) :
    (s.dropLot k).stampCounter = s.stampCounter := rfl
@[simp] theorem State.dropLot_releaseQueue (s : State) (k : Slot) :
    (s.dropLot k).releaseQueue = s.releaseQueue := rfl
@[simp] theorem State.dropLot_waitingCounter (s : State) (k : Slot) :
    (s.dropLot k).waitingCounter = s.waitingCounter := rfl
@[simp] theorem State.dropLot_floorTime (s : State) (k : Slot) :
    (s.dropLot k).floorTime = s.floorTime := rfl
@[simp] theorem State.dropLot_divider (s : State) (k : Slot) :
    (s.dropLot k).divider = s.divider := rfl
@[simp] theorem State.dropLot_link (s : State) (k : Slot) :
    (s.dropLot k).link = s.link := rfl
@[simp] theorem State.dropLot_resetCause (s : State) (k : Slot) :
    (s.dropLot k).resetCause = s.resetCause := rfl
@[simp] theorem State.dropLot_lineResets (s : State) (k : Slot) :
    (s.dropLot k).lineResets = s.lineResets := rfl
@[simp] theorem State.dropLot_inReset (s : State) (k : Slot) :
    (s.dropLot k).inReset = s.inReset := rfl
@[simp] theorem State.dropLot_pending (s : State) (k : Slot) :
    (s.dropLot k).pending = s.pending := rfl

/-! ### updLink -/

@[simp] theorem State.updLink_lots (s : State) (f : Link → Link) :
    (s.updLink f).lots = s.lots := rfl
@[simp] theorem State.updLink_products (s : State) (f : Link → Link) :
    (s.updLink f).products = s.products := rfl
@[simp] theorem State.updLink_library (s : State) (f : Link → Link) :
    (s.updLink f).library = s.library := rfl
@[simp] theorem State.updLink_handlers (s : State) (f : Link → Link) :
    (s.updLink f).handlers = s.handlers := rfl
@[simp] theorem State.updLink_testers (s : State) (f : Link → Link) :
    (s.updLink f).testers = s.testers := rfl
@[simp] theorem State.updLink_deviations (s : State) (f : Link → Link) :
    (s.updLink f).deviations = s.deviations := rfl
@[simp] theorem State.updLink_guards (s : State) (f : Link → Link) :
    (s.updLink f).guards = s.guards := rfl
@[simp] theorem State.updLink_stations (s : State) (f : Link → Link) :
    (s.updLink f).stations = s.stations := rfl
@[simp] theorem State.updLink_settings (s : State) (f : Link → Link) :
    (s.updLink f).settings = s.settings := rfl
@[simp] theorem State.updLink_stampCounter (s : State) (f : Link → Link) :
    (s.updLink f).stampCounter = s.stampCounter := rfl
@[simp] theorem State.updLink_releaseQueue (s : State) (f : Link → Link) :
    (s.updLink f).releaseQueue = s.releaseQueue := rfl
@[simp] theorem State.updLink_waitingCounter (s : State) (f : Link → Link) :
    (s.updLink f).waitingCounter = s.waitingCounter := rfl
@[simp] theorem State.updLink_floorTime (s : State) (f : Link → Link) :
    (s.updLink f).floorTime = s.floorTime := rfl
@[simp] theorem State.updLink_divider (s : State) (f : Link → Link) :
    (s.updLink f).divider = s.divider := rfl
@[simp] theorem State.updLink_link (s : State) (f : Link → Link) :
    (s.updLink f).link = f s.link := rfl
@[simp] theorem State.updLink_resetCause (s : State) (f : Link → Link) :
    (s.updLink f).resetCause = s.resetCause := rfl
@[simp] theorem State.updLink_lineResets (s : State) (f : Link → Link) :
    (s.updLink f).lineResets = s.lineResets := rfl
@[simp] theorem State.updLink_inReset (s : State) (f : Link → Link) :
    (s.updLink f).inReset = s.inReset := rfl
@[simp] theorem State.updLink_pending (s : State) (f : Link → Link) :
    (s.updLink f).pending = s.pending := rfl

/-! ### markRoles -/

@[simp] theorem State.markRoles_lots (s : State) (rs : List Role) (k : AttentionKind) (u : BitVec 16) :
    (s.markRoles rs k u).lots = s.lots := rfl
@[simp] theorem State.markRoles_products (s : State) (rs : List Role) (k : AttentionKind) (u : BitVec 16) :
    (s.markRoles rs k u).products = s.products := rfl
@[simp] theorem State.markRoles_library (s : State) (rs : List Role) (k : AttentionKind) (u : BitVec 16) :
    (s.markRoles rs k u).library = s.library := rfl
@[simp] theorem State.markRoles_handlers (s : State) (rs : List Role) (k : AttentionKind) (u : BitVec 16) :
    (s.markRoles rs k u).handlers = s.handlers := rfl
@[simp] theorem State.markRoles_testers (s : State) (rs : List Role) (k : AttentionKind) (u : BitVec 16) :
    (s.markRoles rs k u).testers = s.testers := rfl
@[simp] theorem State.markRoles_deviations (s : State) (rs : List Role) (k : AttentionKind) (u : BitVec 16) :
    (s.markRoles rs k u).deviations = s.deviations := rfl
@[simp] theorem State.markRoles_guards (s : State) (rs : List Role) (k : AttentionKind) (u : BitVec 16) :
    (s.markRoles rs k u).guards = s.guards := rfl
@[simp] theorem State.markRoles_stations (s : State) (rs : List Role) (k : AttentionKind) (u : BitVec 16) :
    (s.markRoles rs k u).stations = vecMap (fun x => if x.enrolled && x.roles.hasAny rs then x.mark k u else x) s.stations := rfl
@[simp] theorem State.markRoles_settings (s : State) (rs : List Role) (k : AttentionKind) (u : BitVec 16) :
    (s.markRoles rs k u).settings = s.settings := rfl
@[simp] theorem State.markRoles_stampCounter (s : State) (rs : List Role) (k : AttentionKind) (u : BitVec 16) :
    (s.markRoles rs k u).stampCounter = s.stampCounter := rfl
@[simp] theorem State.markRoles_releaseQueue (s : State) (rs : List Role) (k : AttentionKind) (u : BitVec 16) :
    (s.markRoles rs k u).releaseQueue = s.releaseQueue := rfl
@[simp] theorem State.markRoles_waitingCounter (s : State) (rs : List Role) (k : AttentionKind) (u : BitVec 16) :
    (s.markRoles rs k u).waitingCounter = s.waitingCounter := rfl
@[simp] theorem State.markRoles_floorTime (s : State) (rs : List Role) (k : AttentionKind) (u : BitVec 16) :
    (s.markRoles rs k u).floorTime = s.floorTime := rfl
@[simp] theorem State.markRoles_divider (s : State) (rs : List Role) (k : AttentionKind) (u : BitVec 16) :
    (s.markRoles rs k u).divider = s.divider := rfl
@[simp] theorem State.markRoles_link (s : State) (rs : List Role) (k : AttentionKind) (u : BitVec 16) :
    (s.markRoles rs k u).link = s.link := rfl
@[simp] theorem State.markRoles_resetCause (s : State) (rs : List Role) (k : AttentionKind) (u : BitVec 16) :
    (s.markRoles rs k u).resetCause = s.resetCause := rfl
@[simp] theorem State.markRoles_lineResets (s : State) (rs : List Role) (k : AttentionKind) (u : BitVec 16) :
    (s.markRoles rs k u).lineResets = s.lineResets := rfl
@[simp] theorem State.markRoles_inReset (s : State) (rs : List Role) (k : AttentionKind) (u : BitVec 16) :
    (s.markRoles rs k u).inReset = s.inReset := rfl
@[simp] theorem State.markRoles_pending (s : State) (rs : List Role) (k : AttentionKind) (u : BitVec 16) :
    (s.markRoles rs k u).pending = s.pending := rfl

/-! ### enterQueue -/

@[simp] theorem State.enterQueue_products (s : State) (k : Slot) :
    (s.enterQueue k).products = s.products := rfl
@[simp] theorem State.enterQueue_library (s : State) (k : Slot) :
    (s.enterQueue k).library = s.library := rfl
@[simp] theorem State.enterQueue_handlers (s : State) (k : Slot) :
    (s.enterQueue k).handlers = s.handlers := rfl
@[simp] theorem State.enterQueue_testers (s : State) (k : Slot) :
    (s.enterQueue k).testers = s.testers := rfl
@[simp] theorem State.enterQueue_deviations (s : State) (k : Slot) :
    (s.enterQueue k).deviations = s.deviations := rfl
@[simp] theorem State.enterQueue_guards (s : State) (k : Slot) :
    (s.enterQueue k).guards = s.guards := rfl
@[simp] theorem State.enterQueue_stations (s : State) (k : Slot) :
    (s.enterQueue k).stations = s.stations := rfl
@[simp] theorem State.enterQueue_settings (s : State) (k : Slot) :
    (s.enterQueue k).settings = s.settings := rfl
@[simp] theorem State.enterQueue_stampCounter (s : State) (k : Slot) :
    (s.enterQueue k).stampCounter = nextStamp s.stampCounter := rfl
@[simp] theorem State.enterQueue_releaseQueue (s : State) (k : Slot) :
    (s.enterQueue k).releaseQueue = s.releaseQueue := rfl
@[simp] theorem State.enterQueue_waitingCounter (s : State) (k : Slot) :
    (s.enterQueue k).waitingCounter = s.waitingCounter := rfl
@[simp] theorem State.enterQueue_floorTime (s : State) (k : Slot) :
    (s.enterQueue k).floorTime = s.floorTime := rfl
@[simp] theorem State.enterQueue_divider (s : State) (k : Slot) :
    (s.enterQueue k).divider = s.divider := rfl
@[simp] theorem State.enterQueue_link (s : State) (k : Slot) :
    (s.enterQueue k).link = s.link := rfl
@[simp] theorem State.enterQueue_resetCause (s : State) (k : Slot) :
    (s.enterQueue k).resetCause = s.resetCause := rfl
@[simp] theorem State.enterQueue_lineResets (s : State) (k : Slot) :
    (s.enterQueue k).lineResets = s.lineResets := rfl
@[simp] theorem State.enterQueue_inReset (s : State) (k : Slot) :
    (s.enterQueue k).inReset = s.inReset := rfl
@[simp] theorem State.enterQueue_pending (s : State) (k : Slot) :
    (s.enterQueue k).pending = s.pending := rfl

/-! ### joinWaiting -/

@[simp] theorem State.joinWaiting_products (s : State) (k : Slot) :
    (s.joinWaiting k).products = s.products := rfl
@[simp] theorem State.joinWaiting_library (s : State) (k : Slot) :
    (s.joinWaiting k).library = s.library := rfl
@[simp] theorem State.joinWaiting_handlers (s : State) (k : Slot) :
    (s.joinWaiting k).handlers = s.handlers := rfl
@[simp] theorem State.joinWaiting_testers (s : State) (k : Slot) :
    (s.joinWaiting k).testers = s.testers := rfl
@[simp] theorem State.joinWaiting_deviations (s : State) (k : Slot) :
    (s.joinWaiting k).deviations = s.deviations := rfl
@[simp] theorem State.joinWaiting_guards (s : State) (k : Slot) :
    (s.joinWaiting k).guards = s.guards := rfl
@[simp] theorem State.joinWaiting_stations (s : State) (k : Slot) :
    (s.joinWaiting k).stations = s.stations := rfl
@[simp] theorem State.joinWaiting_settings (s : State) (k : Slot) :
    (s.joinWaiting k).settings = s.settings := rfl
@[simp] theorem State.joinWaiting_stampCounter (s : State) (k : Slot) :
    (s.joinWaiting k).stampCounter = s.stampCounter := rfl
@[simp] theorem State.joinWaiting_releaseQueue (s : State) (k : Slot) :
    (s.joinWaiting k).releaseQueue = s.releaseQueue := rfl
@[simp] theorem State.joinWaiting_waitingCounter (s : State) (k : Slot) :
    (s.joinWaiting k).waitingCounter = nextStamp s.waitingCounter := rfl
@[simp] theorem State.joinWaiting_floorTime (s : State) (k : Slot) :
    (s.joinWaiting k).floorTime = s.floorTime := rfl
@[simp] theorem State.joinWaiting_divider (s : State) (k : Slot) :
    (s.joinWaiting k).divider = s.divider := rfl
@[simp] theorem State.joinWaiting_link (s : State) (k : Slot) :
    (s.joinWaiting k).link = s.link := rfl
@[simp] theorem State.joinWaiting_resetCause (s : State) (k : Slot) :
    (s.joinWaiting k).resetCause = s.resetCause := rfl
@[simp] theorem State.joinWaiting_lineResets (s : State) (k : Slot) :
    (s.joinWaiting k).lineResets = s.lineResets := rfl
@[simp] theorem State.joinWaiting_inReset (s : State) (k : Slot) :
    (s.joinWaiting k).inReset = s.inReset := rfl
@[simp] theorem State.joinWaiting_pending (s : State) (k : Slot) :
    (s.joinWaiting k).pending = s.pending := rfl

/-! ### dropRecord -/

@[simp] theorem State.dropRecord_lots (s : State) (k : Slot) :
    (s.dropRecord k).lots = s.lots := rfl
@[simp] theorem State.dropRecord_products (s : State) (k : Slot) :
    (s.dropRecord k).products = s.products := rfl
@[simp] theorem State.dropRecord_library (s : State) (k : Slot) :
    (s.dropRecord k).library = s.library := rfl
@[simp] theorem State.dropRecord_handlers (s : State) (k : Slot) :
    (s.dropRecord k).handlers = s.handlers := rfl
@[simp] theorem State.dropRecord_testers (s : State) (k : Slot) :
    (s.dropRecord k).testers = s.testers := rfl
@[simp] theorem State.dropRecord_deviations (s : State) (k : Slot) :
    (s.dropRecord k).deviations = s.deviations := rfl
@[simp] theorem State.dropRecord_guards (s : State) (k : Slot) :
    (s.dropRecord k).guards = s.guards := rfl
@[simp] theorem State.dropRecord_stations (s : State) (k : Slot) :
    (s.dropRecord k).stations = s.stations := rfl
@[simp] theorem State.dropRecord_settings (s : State) (k : Slot) :
    (s.dropRecord k).settings = s.settings := rfl
@[simp] theorem State.dropRecord_stampCounter (s : State) (k : Slot) :
    (s.dropRecord k).stampCounter = s.stampCounter := rfl
@[simp] theorem State.dropRecord_releaseQueue (s : State) (k : Slot) :
    (s.dropRecord k).releaseQueue = s.releaseQueue.filter (fun r => r.slot ≠ k) := rfl
@[simp] theorem State.dropRecord_waitingCounter (s : State) (k : Slot) :
    (s.dropRecord k).waitingCounter = s.waitingCounter := rfl
@[simp] theorem State.dropRecord_floorTime (s : State) (k : Slot) :
    (s.dropRecord k).floorTime = s.floorTime := rfl
@[simp] theorem State.dropRecord_divider (s : State) (k : Slot) :
    (s.dropRecord k).divider = s.divider := rfl
@[simp] theorem State.dropRecord_link (s : State) (k : Slot) :
    (s.dropRecord k).link = s.link := rfl
@[simp] theorem State.dropRecord_resetCause (s : State) (k : Slot) :
    (s.dropRecord k).resetCause = s.resetCause := rfl
@[simp] theorem State.dropRecord_lineResets (s : State) (k : Slot) :
    (s.dropRecord k).lineResets = s.lineResets := rfl
@[simp] theorem State.dropRecord_inReset (s : State) (k : Slot) :
    (s.dropRecord k).inReset = s.inReset := rfl
@[simp] theorem State.dropRecord_pending (s : State) (k : Slot) :
    (s.dropRecord k).pending = s.pending := rfl

/-! ### endRunOf -/

@[simp] theorem State.endRunOf_products (s : State) (k : Slot) :
    (s.endRunOf k).products = s.products := rfl
@[simp] theorem State.endRunOf_library (s : State) (k : Slot) :
    (s.endRunOf k).library = s.library := rfl
@[simp] theorem State.endRunOf_handlers (s : State) (k : Slot) :
    (s.endRunOf k).handlers = s.handlers := rfl
@[simp] theorem State.endRunOf_testers (s : State) (k : Slot) :
    (s.endRunOf k).testers = s.testers := rfl
@[simp] theorem State.endRunOf_deviations (s : State) (k : Slot) :
    (s.endRunOf k).deviations = s.deviations := rfl
@[simp] theorem State.endRunOf_guards (s : State) (k : Slot) :
    (s.endRunOf k).guards = s.guards := rfl
@[simp] theorem State.endRunOf_stations (s : State) (k : Slot) :
    (s.endRunOf k).stations = s.stations := rfl
@[simp] theorem State.endRunOf_settings (s : State) (k : Slot) :
    (s.endRunOf k).settings = s.settings := rfl
@[simp] theorem State.endRunOf_stampCounter (s : State) (k : Slot) :
    (s.endRunOf k).stampCounter = s.stampCounter := rfl
@[simp] theorem State.endRunOf_releaseQueue (s : State) (k : Slot) :
    (s.endRunOf k).releaseQueue = s.releaseQueue := rfl
@[simp] theorem State.endRunOf_waitingCounter (s : State) (k : Slot) :
    (s.endRunOf k).waitingCounter = s.waitingCounter := rfl
@[simp] theorem State.endRunOf_floorTime (s : State) (k : Slot) :
    (s.endRunOf k).floorTime = s.floorTime := rfl
@[simp] theorem State.endRunOf_divider (s : State) (k : Slot) :
    (s.endRunOf k).divider = s.divider := rfl
@[simp] theorem State.endRunOf_link (s : State) (k : Slot) :
    (s.endRunOf k).link = s.link := rfl
@[simp] theorem State.endRunOf_resetCause (s : State) (k : Slot) :
    (s.endRunOf k).resetCause = s.resetCause := rfl
@[simp] theorem State.endRunOf_lineResets (s : State) (k : Slot) :
    (s.endRunOf k).lineResets = s.lineResets := rfl
@[simp] theorem State.endRunOf_inReset (s : State) (k : Slot) :
    (s.endRunOf k).inReset = s.inReset := rfl
@[simp] theorem State.endRunOf_pending (s : State) (k : Slot) :
    (s.endRunOf k).pending = s.pending := rfl

/-! ### taken -/

@[simp] theorem State.taken_lots (s : State) :
    (s.taken).lots = s.lots := rfl
@[simp] theorem State.taken_products (s : State) :
    (s.taken).products = s.products := rfl
@[simp] theorem State.taken_library (s : State) :
    (s.taken).library = s.library := rfl
@[simp] theorem State.taken_handlers (s : State) :
    (s.taken).handlers = s.handlers := rfl
@[simp] theorem State.taken_testers (s : State) :
    (s.taken).testers = s.testers := rfl
@[simp] theorem State.taken_deviations (s : State) :
    (s.taken).deviations = s.deviations := rfl
@[simp] theorem State.taken_guards (s : State) :
    (s.taken).guards = s.guards := rfl
@[simp] theorem State.taken_stations (s : State) :
    (s.taken).stations = s.stations := rfl
@[simp] theorem State.taken_settings (s : State) :
    (s.taken).settings = s.settings := rfl
@[simp] theorem State.taken_stampCounter (s : State) :
    (s.taken).stampCounter = s.stampCounter := rfl
@[simp] theorem State.taken_releaseQueue (s : State) :
    (s.taken).releaseQueue = s.releaseQueue := rfl
@[simp] theorem State.taken_waitingCounter (s : State) :
    (s.taken).waitingCounter = s.waitingCounter := rfl
@[simp] theorem State.taken_floorTime (s : State) :
    (s.taken).floorTime = s.floorTime := rfl
@[simp] theorem State.taken_divider (s : State) :
    (s.taken).divider = s.divider := rfl
@[simp] theorem State.taken_link (s : State) :
    (s.taken).link = { s.link with rxBuffer := s.link.rxBuffer.tail } := rfl
@[simp] theorem State.taken_resetCause (s : State) :
    (s.taken).resetCause = s.resetCause := rfl
@[simp] theorem State.taken_lineResets (s : State) :
    (s.taken).lineResets = s.lineResets := rfl
@[simp] theorem State.taken_inReset (s : State) :
    (s.taken).inReset = s.inReset := rfl
@[simp] theorem State.taken_pending (s : State) :
    (s.taken).pending = s.pending := rfl

/-! ### answered -/

@[simp] theorem State.answered_lots (s : State) (m : Msg) (k : Kind) (r : Result) (b : Body) :
    (s.answered m k r b).lots = s.lots := rfl
@[simp] theorem State.answered_products (s : State) (m : Msg) (k : Kind) (r : Result) (b : Body) :
    (s.answered m k r b).products = s.products := rfl
@[simp] theorem State.answered_library (s : State) (m : Msg) (k : Kind) (r : Result) (b : Body) :
    (s.answered m k r b).library = s.library := rfl
@[simp] theorem State.answered_handlers (s : State) (m : Msg) (k : Kind) (r : Result) (b : Body) :
    (s.answered m k r b).handlers = s.handlers := rfl
@[simp] theorem State.answered_testers (s : State) (m : Msg) (k : Kind) (r : Result) (b : Body) :
    (s.answered m k r b).testers = s.testers := rfl
@[simp] theorem State.answered_deviations (s : State) (m : Msg) (k : Kind) (r : Result) (b : Body) :
    (s.answered m k r b).deviations = s.deviations := rfl
@[simp] theorem State.answered_guards (s : State) (m : Msg) (k : Kind) (r : Result) (b : Body) :
    (s.answered m k r b).guards = s.guards := rfl
@[simp] theorem State.answered_stations (s : State) (m : Msg) (k : Kind) (r : Result) (b : Body) :
    (s.answered m k r b).stations = s.stations := rfl
@[simp] theorem State.answered_settings (s : State) (m : Msg) (k : Kind) (r : Result) (b : Body) :
    (s.answered m k r b).settings = s.settings := rfl
@[simp] theorem State.answered_stampCounter (s : State) (m : Msg) (k : Kind) (r : Result) (b : Body) :
    (s.answered m k r b).stampCounter = s.stampCounter := rfl
@[simp] theorem State.answered_releaseQueue (s : State) (m : Msg) (k : Kind) (r : Result) (b : Body) :
    (s.answered m k r b).releaseQueue = s.releaseQueue := rfl
@[simp] theorem State.answered_waitingCounter (s : State) (m : Msg) (k : Kind) (r : Result) (b : Body) :
    (s.answered m k r b).waitingCounter = s.waitingCounter := rfl
@[simp] theorem State.answered_floorTime (s : State) (m : Msg) (k : Kind) (r : Result) (b : Body) :
    (s.answered m k r b).floorTime = s.floorTime := rfl
@[simp] theorem State.answered_divider (s : State) (m : Msg) (k : Kind) (r : Result) (b : Body) :
    (s.answered m k r b).divider = s.divider := rfl
@[simp] theorem State.answered_resetCause (s : State) (m : Msg) (k : Kind) (r : Result) (b : Body) :
    (s.answered m k r b).resetCause = s.resetCause := rfl
@[simp] theorem State.answered_lineResets (s : State) (m : Msg) (k : Kind) (r : Result) (b : Body) :
    (s.answered m k r b).lineResets = s.lineResets := rfl
@[simp] theorem State.answered_inReset (s : State) (m : Msg) (k : Kind) (r : Result) (b : Body) :
    (s.answered m k r b).inReset = s.inReset := rfl
@[simp] theorem State.answered_pending (s : State) (m : Msg) (k : Kind) (r : Result) (b : Body) :
    (s.answered m k r b).pending = s.pending := rfl

/-! ### Reading the record that an update changed, and the others -/

@[simp] theorem State.updHandler_self (s : State) (h : HandlerId) (f : Handler → Handler) :
    (s.updHandler h f).handlers[h] = f s.handlers[h] := by
  simp

theorem State.updHandler_ne (s : State) {g h : HandlerId} (hne : g ≠ h) (f : Handler → Handler) :
    (s.updHandler g f).handlers[h] = s.handlers[h] :=
  set_getElem_ne _ hne _

@[simp] theorem State.updTester_self (s : State) (t : TesterId) (f : Tester → Tester) :
    (s.updTester t f).testers[t] = f s.testers[t] := by
  simp

theorem State.updTester_ne (s : State) {t u : TesterId} (hne : t ≠ u) (f : Tester → Tester) :
    (s.updTester t f).testers[u] = s.testers[u] :=
  set_getElem_ne _ hne _

@[simp] theorem State.updStation_self (s : State) (i : StationId) (f : Station → Station) :
    (s.updStation i f).stations[i] = f s.stations[i] := by
  simp

theorem State.updStation_ne (s : State) {i j : StationId} (hne : i ≠ j) (f : Station → Station) :
    (s.updStation i f).stations[j] = s.stations[j] :=
  set_getElem_ne _ hne _

@[simp] theorem State.updDeviation_self (s : State) (d : DevId) (f : Option Deviation → Option Deviation) :
    (s.updDeviation d f).deviations[d] = f s.deviations[d] := by
  simp

theorem State.updDeviation_ne (s : State) {d e : DevId} (hne : d ≠ e) (f : Option Deviation → Option Deviation) :
    (s.updDeviation d f).deviations[e] = s.deviations[e] :=
  set_getElem_ne _ hne _

@[simp] theorem State.markRoles_station (s : State) (rs : List Role) (k : AttentionKind) (u : BitVec 16) (i : StationId) :
    (s.markRoles rs k u).stations[i] =
      if s.stations[i].enrolled && s.stations[i].roles.hasAny rs then s.stations[i].mark k u else s.stations[i] := by
  simp [State.markRoles]

/-! ### A station that is marked keeps everything but its attention set -/

@[simp] theorem Station.mark_enrolled (k : AttentionKind) (u : BitVec 16) (x : Station) : (x.mark k u).enrolled = x.enrolled := by
  unfold Station.mark; split <;> rfl

@[simp] theorem Station.mark_roles (k : AttentionKind) (u : BitVec 16) (x : Station) : (x.mark k u).roles = x.roles := by
  unfold Station.mark; split <;> rfl

@[simp] theorem Station.mark_bound (k : AttentionKind) (u : BitVec 16) (x : Station) : (x.mark k u).bound = x.bound := by
  unfold Station.mark; split <;> rfl

@[simp] theorem Station.mark_mask (k : AttentionKind) (u : BitVec 16) (x : Station) : (x.mark k u).mask = x.mask := by
  unfold Station.mark; split <;> rfl

end Sys2Proof.Machine
end

