-- ==== Sys2Proof/Laws/Frames.lean ====
section
/-! SUPPORT. Laws/Frames.lean: one lemma per shared operation that names every field the operation can change: the result is the
state before with those fields, and no others, replaced. -/

namespace Sys2Proof.Machine

variable (s : State)

/-! ### Attention -/

theorem State.markBound_frame (h : HandlerId) (k : AttentionKind) (u : BitVec 16) :
    ∃ ss, s.markBound h k u = { s with stations := ss } := by
  unfold State.markBound
  split
  · exact ⟨_, rfl⟩
  · exact ⟨s.stations, rfl⟩

theorem State.markRoles_frame (rs : List Role) (k : AttentionKind) (u : BitVec 16) :
    ∃ ss, s.markRoles rs k u = { s with stations := ss } := ⟨_, rfl⟩

theorem State.markComplete_frame (l : Lot) : ∃ ss, s.markComplete l = { s with stations := ss } := by
  unfold State.markComplete
  split <;> exact ⟨_, rfl⟩

theorem State.markStagingFault_frame (t : TesterId) : ∃ ss, s.markStagingFault t = { s with stations := ss } := by
  unfold State.markStagingFault
  split
  · next h _ => obtain ⟨a, ha⟩ := s.markBound_frame h .stagingFault (unitBit t); rw [ha]; exact ⟨_, rfl⟩
  · exact ⟨_, rfl⟩

/-! ### Readiness and setup -/

theorem State.readyCheck_frame (h : HandlerId) :
    ∃ hs ss, s.readyCheck h = { s with handlers := hs, stations := ss } := by
  unfold State.readyCheck
  split
  · split
    · obtain ⟨a, ha⟩ := State.markBound_frame (s.updHandler h _) h .readyToStart (unitBit h)
      exact ⟨_, _, ha⟩
    · exact ⟨s.handlers, s.stations, rfl⟩
  · split
    · exact ⟨s.handlers, s.stations, rfl⟩
    · exact ⟨_, s.stations, rfl⟩
  · exact ⟨s.handlers, s.stations, rfl⟩

theorem State.applySetup_frame (h : HandlerId) (k : Slot) :
    ∃ hs ss, s.applySetup h k = { s with handlers := hs, stations := ss } := by
  unfold State.applySetup
  split
  · exact ⟨s.handlers, s.stations, rfl⟩
  · dsimp only
    have mark : ∀ (u : State) (a : AttentionKind), (∃ hs ss, u = { s with handlers := hs, stations := ss }) →
        ∃ hs ss, u.markBound h a (unitBit h) = { s with handlers := hs, stations := ss } := by
      rintro u a ⟨hs, ss, rfl⟩
      obtain ⟨b, hb⟩ := State.markBound_frame { s with handlers := hs, stations := ss } h a (unitBit h)
      exact ⟨_, _, hb⟩
    split <;> split
    · exact mark _ _ (mark _ _ ⟨_, s.stations, rfl⟩)
    · exact mark _ _ ⟨_, s.stations, rfl⟩
    · exact mark _ _ ⟨_, s.stations, rfl⟩
    · exact ⟨_, s.stations, rfl⟩

/-! ### Loads -/

theorem State.startLoad_frame (t : TesterId) (p : Program) (n : Nat) :
    ∃ ts ss, s.startLoad t p n = { s with testers := ts, stations := ss } := by
  unfold State.startLoad
  split
  · exact ⟨s.testers, s.stations, rfl⟩
  · dsimp only
    split
    · next h _ =>
      obtain ⟨b, hb⟩ := State.markBound_frame (s.updTester t _) h .stageRequest (unitBit h)
      exact ⟨_, _, hb⟩
    · exact ⟨_, s.stations, rfl⟩

theorem State.beginStaging_frame (t : TesterId) (p : Program) :
    ∃ ts ss, s.beginStaging t p = { s with testers := ts, stations := ss } := by
  unfold State.beginStaging
  split
  · exact ⟨s.testers, s.stations, rfl⟩
  · split
    · split
      · split
        · exact ⟨_, s.stations, rfl⟩
        · exact ⟨s.testers, s.stations, rfl⟩
      · exact s.startLoad_frame t p 1
    · exact s.startLoad_frame t p 1

/-! ### Reservations -/

theorem State.updPending_frame (d : Option DevId) (f : Nat → Nat) :
    ∃ ds, s.updPending d f = { s with deviations := ds } := by
  unfold State.updPending
  split
  · exact ⟨_, rfl⟩
  · exact ⟨s.deviations, rfl⟩

theorem State.useDeviation_frame (d : Option DevId) : ∃ ds, s.useDeviation d = { s with deviations := ds } := by
  unfold State.useDeviation
  split
  · exact ⟨_, rfl⟩
  · exact ⟨s.deviations, rfl⟩

theorem State.cancelReservation_frame (k : Slot) (held : Bool) :
    ∃ ls hs ds ss, s.cancelReservation k held =
      { s with lots := ls, handlers := hs, deviations := ds, stations := ss } := by
  unfold State.cancelReservation
  split
  · exact ⟨s.lots, s.handlers, s.deviations, s.stations, rfl⟩
  · split
    · next w h r _ =>
      obtain ⟨d, hd⟩ := s.updPending_frame r.deviation (fun n => n - 1)
      rw [hd]
      obtain ⟨b, hb⟩ := State.markBound_frame
        (({ s with deviations := d }.setLotState k (if held then .held else .queued w)).updHandler h Handler.dropReserved)
        h .reservationCancelled (unitBit h)
      exact ⟨_, _, _, _, hb⟩
    · exact ⟨s.lots, s.handlers, s.deviations, s.stations, rfl⟩

theorem State.reserve_frame (h : HandlerId) (l : Lot) :
    ∃ ls hs ts ds ss, s.reserve h l =
      { s with lots := ls, handlers := hs, testers := ts, deviations := ds, stations := ss } := by
  unfold State.reserve
  split
  · next w _ =>
    dsimp only
    obtain ⟨d, hd⟩ := State.updPending_frame (s.setLotState l.slot (.reserved w h (s.resolve l)))
      (s.resolve l).deviation (fun n => n + 1)
    rw [hd]
    have fin : ∀ s2 : State, (∃ ls hs ts ds ss, s2 =
          { s with lots := ls, handlers := hs, testers := ts, deviations := ds, stations := ss }) →
        ∃ ls hs ts ds ss, (if s.handlers[h].cell.current.isSome then s2 else (s2.applySetup h l.slot).readyCheck h) =
          { s with lots := ls, handlers := hs, testers := ts, deviations := ds, stations := ss } := by
      rintro s2 ⟨a, b, c, e, f, rfl⟩
      split
      · exact ⟨_, _, _, _, _, rfl⟩
      · obtain ⟨g, i, hi⟩ := State.applySetup_frame
          { s with lots := a, handlers := b, testers := c, deviations := e, stations := f } h l.slot
        rw [hi]
        obtain ⟨j, m, hm⟩ := State.readyCheck_frame
          { s with lots := a, handlers := g, testers := c, deviations := e, stations := i } h
        exact ⟨_, _, _, _, _, hm⟩
    apply fin
    split
    · next t _ =>
      obtain ⟨a, b, hb⟩ := State.beginStaging_frame
        ({ (s.setLotState l.slot (.reserved w h (s.resolve l))) with deviations := d }.updHandler h
          (fun x => { x with cell := x.cell.takeReserved l.slot })) t (s.resolve l).program
      exact ⟨_, _, _, _, _, hb⟩
    · exact ⟨_, _, _, _, _, rfl⟩
  · exact ⟨s.lots, s.handlers, s.testers, s.deviations, s.stations, rfl⟩

theorem State.afterLoad_frame (t : TesterId) :
    ∃ ls hs ts ds ss, s.afterLoad t =
      { s with lots := ls, handlers := hs, testers := ts, deviations := ds, stations := ss } := by
  have load : ∀ p n, ∃ ls hs ts ds ss, s.startLoad t p n =
      { s with lots := ls, handlers := hs, testers := ts, deviations := ds, stations := ss } := fun p n => by
    obtain ⟨a, b, hb⟩ := s.startLoad_frame t p n
    exact ⟨_, _, _, _, _, hb⟩
  unfold State.afterLoad
  split
  · exact ⟨_, _, _, _, _, rfl⟩
  · split
    · exact ⟨_, _, _, _, _, rfl⟩
    · split
      · obtain ⟨a, b, hb⟩ := s.readyCheck_frame _
        exact ⟨_, _, _, _, _, hb⟩
      · split
        · split
          · split
            · exact load _ _
            · obtain ⟨a, b, c, d, hd⟩ := s.cancelReservation_frame _ false
              exact ⟨_, _, _, _, _, hd⟩
          · exact load _ _
        · exact load _ _

theorem State.loadEnded_frame (t : TesterId) :
    ∃ ls hs ts ds ss, s.loadEnded t =
      { s with lots := ls, handlers := hs, testers := ts, deviations := ds, stations := ss } := by
  unfold State.loadEnded
  split
  · obtain ⟨a, ha⟩ := s.markStagingFault_frame t
    rw [ha]
    obtain ⟨b, c, d, e, f, hf⟩ := State.afterLoad_frame { s with stations := a } t
    exact ⟨_, _, _, _, _, hf⟩
  · exact s.afterLoad_frame t

/-! ### Release -/

theorem State.release_frame (l : Lot) :
    ∃ ls rq ss, s.release l = { s with lots := ls, releaseQueue := rq, stations := ss } := ⟨_, _, _, rfl⟩

theorem State.offerPlace_frame :
    ∃ ls rq ss, s.offerPlace = { s with lots := ls, releaseQueue := rq, stations := ss } := by
  unfold State.offerPlace
  split
  · exact s.release_frame _
  · exact ⟨s.lots, s.releaseQueue, s.stations, rfl⟩

theorem State.recall_frame (k : Slot) :
    ∃ ls rq ss, s.recall k = { s with lots := ls, releaseQueue := rq, stations := ss } := by
  obtain ⟨a, b, c, hc⟩ :=
    State.offerPlace_frame ((s.dropRecord k).updLot k (fun l => { l with state := .held, endorsements := [] }))
  exact ⟨_, _, _, hc⟩

theorem State.collect_frame (k : Slot) :
    ∃ ls rq ss, s.collect k = { s with lots := ls, releaseQueue := rq, stations := ss } := by
  obtain ⟨a, b, c, hc⟩ := State.offerPlace_frame ((s.dropRecord k).dropLot k)
  exact ⟨_, _, _, hc⟩

/-! ### Holds -/

theorem State.addHold_frame (k : Slot) (r : HoldReason) (who : Option StationId) (gs : BitVec 4) :
    ∃ ls ss, (s.addHold k r who gs).1 = { s with lots := ls, stations := ss } := by
  unfold State.addHold
  split
  · exact ⟨s.lots, s.stations, rfl⟩
  · split
    · exact ⟨s.lots, s.stations, rfl⟩
    · exact ⟨_, _, rfl⟩

theorem State.addHoldIf_frame (c : Bool) (k : Slot) (r : HoldReason) :
    ∃ ls ss, (s.addHoldIf c k r).1 = { s with lots := ls, stations := ss } := by
  unfold State.addHoldIf
  split
  · exact s.addHold_frame k r none 0
  · exact ⟨s.lots, s.stations, rfl⟩

theorem State.startDrain_frame (k : Slot) (h : HandlerId) (p : Resolved) (r : HoldReason) :
    ∃ ls hs ss, s.startDrain k h p r = { s with lots := ls, handlers := hs, stations := ss } := by
  obtain ⟨b, hb⟩ := State.markBound_frame
    ((s.setLotState k (.draining h p r)).updHandler h (fun x => { x with cell := x.cell.drain, stalled := false }))
    h .stop (unitBit h)
  exact ⟨_, _, _, hb⟩

theorem State.placeHold_frame (k : Slot) (r : HoldReason) (who : Option StationId) (gs : BitVec 4) :
    ∃ ls hs ds ss rq, (s.placeHold k r who gs).1 =
      { s with lots := ls, handlers := hs, deviations := ds, stations := ss, releaseQueue := rq } := by
  unfold State.placeHold
  split
  · exact ⟨_, _, _, _, _, rfl⟩
  · split
    · exact ⟨_, _, _, _, _, rfl⟩
    · dsimp only
      obtain ⟨a, b, hb⟩ := s.addHold_frame k r who gs
      rw [hb]
      split
      · exact ⟨_, _, _, _, _, rfl⟩
      · obtain ⟨c, d, e, f, hf⟩ := State.cancelReservation_frame { s with lots := a, stations := b } k true
        exact ⟨_, _, _, _, _, hf⟩
      · next h p _ =>
        obtain ⟨c, d, e, he⟩ := State.startDrain_frame { s with lots := a, stations := b } k h p r
        exact ⟨_, _, _, _, _, he⟩
      · exact ⟨_, _, _, _, _, rfl⟩
      · exact ⟨_, _, _, _, _, rfl⟩
      · exact ⟨_, _, _, _, _, rfl⟩
      · obtain ⟨c, d, e, he⟩ := State.recall_frame { s with lots := a, stations := b } k
        exact ⟨_, _, _, _, _, he⟩
      · exact ⟨_, _, _, _, _, rfl⟩

/-! ### A lot leaves its handler, and where it goes -/

theorem State.leaveHandler_frame (h : HandlerId) :
    ∃ gs hs ss, s.leaveHandler h = { s with guards := gs, handlers := hs, stations := ss } := by
  unfold State.leaveHandler
  dsimp only
  split
  · next k _ =>
    obtain ⟨a, b, hb⟩ := State.applySetup_frame ({ s with guards := s.guards.set h none }.updHandler h
      (fun x => { x with cell := .preparing k, stalled := false })) h k
    rw [hb]
    obtain ⟨c, d, hd⟩ := State.readyCheck_frame
      { ({ s with guards := s.guards.set h none }.updHandler h
        (fun x => { x with cell := .preparing k, stalled := false })) with handlers := a, stations := b } h
    exact ⟨_, _, _, hd⟩
  · exact ⟨_, _, s.stations, rfl⟩

theorem State.closeStep_frame (l : Lot) : ∃ ls ss, (s.closeStep l).1 = { s with lots := ls, stations := ss } := by
  unfold State.closeStep
  dsimp only
  obtain ⟨a, b, hb⟩ := s.addHoldIf_frame ((s.stepOf l).tolerance < l.cur.missingCount) l.slot .countShort
  rw [hb]
  obtain ⟨c, d, hd⟩ := State.addHoldIf_frame { s with lots := a, stations := b } (l.cur.good = 0) l.slot .noGoodUnits
  rw [hd]
  exact ⟨_, _, rfl⟩

theorem State.proceed_frame (k : Slot) :
    ∃ ls n ss, s.proceed k = { s with lots := ls, stampCounter := n, stations := ss } := by
  unfold State.proceed
  split
  · exact ⟨s.lots, s.stampCounter, s.stations, rfl⟩
  · split
    · exact ⟨_, _, s.stations, rfl⟩
    · next l _ _ =>
      obtain ⟨a, ha⟩ := State.markComplete_frame (s.setLotState k (.complete none)) l
      exact ⟨_, s.stampCounter, _, ha⟩

theorem State.afterClose_frame (k : Slot) :
    ∃ ls n ss, s.afterClose k = { s with lots := ls, stampCounter := n, stations := ss } := by
  unfold State.afterClose
  split
  · exact ⟨s.lots, s.stampCounter, s.stations, rfl⟩
  · split
    · exact s.proceed_frame k
    · exact ⟨_, s.stampCounter, s.stations, rfl⟩

theorem State.afterContinue_frame (k : Slot) :
    ∃ ls n ss, s.afterContinue k = { s with lots := ls, stampCounter := n, stations := ss } := by
  unfold State.afterContinue
  split
  · exact ⟨s.lots, s.stampCounter, s.stations, rfl⟩
  · split
    · exact ⟨s.lots, s.stampCounter, s.stations, rfl⟩
    · split
      · exact s.proceed_frame k
      · split
        · exact ⟨_, _, s.stations, rfl⟩
        · obtain ⟨a, b, hb⟩ := s.addHold_frame k .runLimit none 0
          exact ⟨_, s.stampCounter, _, hb⟩

theorem State.continueLot_frame (k : Slot) (r : HoldReason) :
    ∃ ls n ss, s.continueLot k r = { s with lots := ls, stampCounter := n, stations := ss } := by
  obtain ⟨a, b, c, hc⟩ := State.afterContinue_frame (s.updLot k (Lot.clearHold r)) k
  exact ⟨_, _, _, hc⟩

/-! ### Folds over lots and testers -/

/-- A relation to the state before that every step of a fold keeps holds after the fold. -/
theorem foldl_keeps {α : Type} (P : State → Prop) (f : State → α → State) (hf : ∀ s a, P s → P (f s a)) (xs : List α) (s : State)
    (hs : P s) : P (xs.foldl f s) := by
  induction xs generalizing s with
  | nil => exact hs
  | cons x xs ih => exact ih _ (hf s x hs)

theorem State.placeInterrupted_frame : ∃ ls ss, s.placeInterrupted = { s with lots := ls, stations := ss } := by
  unfold State.placeInterrupted
  refine foldl_keeps (fun u => ∃ ls ss, u = { s with lots := ls, stations := ss }) _ ?_ _ s ⟨s.lots, s.stations, rfl⟩
  rintro u l ⟨a, b, rfl⟩
  obtain ⟨c, d, hd⟩ := State.addHold_frame { s with lots := a, stations := b } l.slot .interrupted none 0
  exact ⟨_, _, hd⟩

theorem State.cancelAll_frame (p : Program) :
    ∃ ls hs ds ss, s.cancelAll p = { s with lots := ls, handlers := hs, deviations := ds, stations := ss } := by
  unfold State.cancelAll
  refine foldl_keeps (fun u => ∃ ls hs ds ss, u = { s with lots := ls, handlers := hs, deviations := ds, stations := ss })
    _ ?_ _ s ⟨_, _, _, _, rfl⟩
  rintro u l ⟨a, b, c, d, rfl⟩
  obtain ⟨e, f, g, h, hh⟩ := State.cancelReservation_frame
    { s with lots := a, handlers := b, deviations := c, stations := d } l.slot false
  exact ⟨_, _, _, _, hh⟩

theorem State.holdRunning_frame (p : Program) (t : TesterId) :
    ∃ ls hs ds ss rq, State.holdRunning p s t =
      { s with lots := ls, handlers := hs, deviations := ds, stations := ss, releaseQueue := rq } := by
  unfold State.holdRunning
  split
  · exact ⟨_, _, _, _, _, rfl⟩
  · split
    · exact ⟨_, _, _, _, _, rfl⟩
    · split
      · exact ⟨_, _, _, _, _, rfl⟩
      · split
        · exact s.placeHold_frame _ .programWithdrawn none 0
        · exact ⟨_, _, _, _, _, rfl⟩

theorem State.readyCheckAt_frame (t : TesterId) :
    ∃ hs ss, s.readyCheckAt t = { s with handlers := hs, stations := ss } := by
  unfold State.readyCheckAt
  split
  · exact s.readyCheck_frame _
  · exact ⟨s.handlers, s.stations, rfl⟩

/-- What a withdrawal can change: lots, handlers, testers, deviations, stations and the release queue; the library entry is
changed by PROGRAM_WITHDRAW itself (R105). -/
theorem State.applyWithdrawal_frame (p : Program) :
    ∃ ls hs ts ds ss rq, s.applyWithdrawal p =
      { s with lots := ls, handlers := hs, testers := ts, deviations := ds, stations := ss, releaseQueue := rq } := by
  unfold State.applyWithdrawal
  dsimp only
  obtain ⟨a, b, c, d, hd⟩ := s.cancelAll_frame p
  rw [hd]
  let Q : State → Prop := fun u => ∃ ls hs ts ds ss rq, u =
    { s with lots := ls, handlers := hs, testers := ts, deviations := ds, stations := ss, releaseQueue := rq }
  change Q _
  refine foldl_keeps Q _ ?_ _ _ (foldl_keeps Q _ ?_ _ _ (foldl_keeps Q _ ?_ _ _ ⟨_, _, _, _, _, _, rfl⟩))
  · rintro u t ⟨e, f, g, i, j, k, rfl⟩
    obtain ⟨m, n, hn⟩ := State.readyCheckAt_frame
      { s with lots := e, handlers := f, testers := g, deviations := i, stations := j, releaseQueue := k } t
    exact ⟨_, _, _, _, _, _, hn⟩
  · rintro u t ⟨e, f, g, i, j, k, rfl⟩
    obtain ⟨m, n, o, q, r, hr⟩ := State.loadEnded_frame
      { s with lots := e, handlers := f, testers := g, deviations := i, stations := j, releaseQueue := k } t
    exact ⟨_, _, _, _, _, _, hr⟩
  · rintro u t ⟨e, f, g, i, j, k, rfl⟩
    obtain ⟨m, n, o, q, r, hr⟩ := State.holdRunning_frame
      { s with lots := e, handlers := f, testers := g, deviations := i, stations := j, releaseQueue := k } p t
    exact ⟨_, _, _, _, _, _, hr⟩

/-! ### Touchdowns -/

theorem State.countTouchdown_frame (h : HandlerId) (l : Lot) (g : GuardRun) (i : BitVec 16) (n : Nat) (us : List (SiteIx × Nat)) :
    ∃ ls gs, s.countTouchdown h l g i n us = { s with lots := ls, guards := gs } := ⟨_, _, rfl⟩

theorem State.disableSite_frame (h : HandlerId) (i : SiteIx) :
    ∃ hs ss, s.disableSite h i = { s with handlers := hs, stations := ss } := by
  obtain ⟨b, hb⟩ := State.markBound_frame (s.updHandler h _) h .siteDisabled (unitBit h)
  exact ⟨_, _, hb⟩

theorem State.siteCheck_frame (st : RouteStep) (h : HandlerId) (sites : Vector SiteCount 8) :
    ∃ hs ss, (s.siteCheck st h sites).1 = { s with handlers := hs, stations := ss } := by
  unfold State.siteCheck
  split
  · exact s.disableSite_frame h _
  · exact ⟨s.handlers, s.stations, rfl⟩

/-- The fields that the checks of a touchdown can change. -/
theorem Checked.tripIf_frame (b : Bool) (k : Slot) (r : HoldReason) (gs : BitVec 4) (c : Checked) :
    ∃ ls hs ds ss rq, (c.tripIf b k r gs).state =
      { c.state with lots := ls, handlers := hs, deviations := ds, stations := ss, releaseQueue := rq } := by
  unfold Checked.tripIf
  split
  · exact State.placeHold_frame c.state k r none gs
  · exact ⟨_, _, _, _, _, rfl⟩

theorem Checked.rearmIf_frame (b : Bool) (k : Slot) (c : Checked) :
    ∃ ls, (c.rearmIf b k).state = { c.state with lots := ls } := by
  unfold Checked.rearmIf
  split
  · exact ⟨_, rfl⟩
  · exact ⟨_, rfl⟩

theorem holdChecks_frame (st : RouteStep) (k : Slot) (r : StepRecord) (ring : List Bool) :
    ∃ ls hs ds ss rq, (holdChecks st k r ring s).state =
      { s with lots := ls, handlers := hs, deviations := ds, stations := ss, releaseQueue := rq } := by
  unfold holdChecks
  obtain ⟨a1, a2, a3, a4, a5, ha⟩ := Checked.tripIf_frame (countExceeds r) k .countExcess 0 (Checked.mk s [])
  generalize Checked.tripIf (countExceeds r) k .countExcess 0 (Checked.mk s []) = c1 at *
  obtain ⟨b1, b2, b3, b4, b5, hb⟩ := Checked.tripIf_frame (yieldLowTrips st r) k .yieldLow 0 c1
  generalize Checked.tripIf (yieldLowTrips st r) k .yieldLow 0 c1 = c2 at *
  obtain ⟨d1, hd⟩ := Checked.rearmIf_frame (cumulativeRearms st r) k c2
  generalize Checked.rearmIf (cumulativeRearms st r) k c2 = c3 at *
  obtain ⟨e1, e2, e3, e4, e5, he⟩ := Checked.tripIf_frame (windowLowTrips st ring) k .windowLow 0 c3
  generalize Checked.tripIf (windowLowTrips st ring) k .windowLow 0 c3 = c4 at *
  obtain ⟨f1, f2, f3, f4, f5, hf⟩ :=
    Checked.tripIf_frame (trippedGroups st r ≠ 0) k .binSpike (trippedGroups st r) c4
  exact ⟨_, _, _, _, _, by rw [hf, he, hd, hb, ha]⟩

theorem State.checkTouchdown_frame (h : HandlerId) (k : Slot) :
    ∃ ls hs ds ss rq, (s.checkTouchdown h k).1.state =
      { s with lots := ls, handlers := hs, deviations := ds, stations := ss, releaseQueue := rq } := by
  unfold State.checkTouchdown
  split
  · next l g _ _ =>
    dsimp only
    obtain ⟨a, b, c, d, e, he⟩ := holdChecks_frame s (s.stepOf l) k l.cur g.ring
    rw [he]
    obtain ⟨f, i, hi⟩ := State.siteCheck_frame
      { s with lots := a, handlers := b, deviations := c, stations := d, releaseQueue := e } (s.stepOf l) h g.sites
    rw [hi]
    exact ⟨_, _, _, _, _, rfl⟩
  · exact ⟨_, _, _, _, _, rfl⟩

theorem State.lookahead_frame (h : HandlerId) :
    ∃ ls hs ts ds ss, (s.lookahead h).1 =
      { s with lots := ls, handlers := hs, testers := ts, deviations := ds, stations := ss } := by
  unfold State.lookahead
  split
  · split
    · exact s.reserve_frame h _
    · exact ⟨_, _, _, _, _, rfl⟩
  · exact ⟨_, _, _, _, _, rfl⟩

/-! ### Stations -/

theorem State.bind_frame (i : StationId) (old new : Option HandlerId) :
    ∃ hs, s.bind i old new = { s with handlers := hs } := by
  unfold State.bind
  cases old <;> cases new <;> exact ⟨_, rfl⟩

end Sys2Proof.Machine
end

