-- ==== Sys2Proof/Laws/PerInstr.lean ====
section
/-! SUPPORT. Laws/PerInstr.lean: what holds of every command as syntax, one lemma per constructor. -/

namespace Sys2Proof.Laws

/-- Every lot id and product code of a well-formed command leaves room for a length byte in a payload of 48 bytes (R168, R175). -/
def TextsFit.Statement (i : Instr) : Prop := i.wellFormed = true → ∀ t ∈ i.texts, t.length < Config.payloadMax

/-- A command without texts. -/
theorem TextsFit.of_none {i : Instr} (h : i.texts = []) : TextsFit.Statement i := by
  intro _ t ht
  rw [h] at ht
  cases ht

theorem TextsFit.lotId {t : Text} (h : fitsLotId t = true) : t.length < Config.payloadMax := by simpa [fitsLotId] using h

theorem TextsFit.code {t : Text} (h : fitsCode t = true) : t.length < Config.payloadMax := by
  have : t.length = 8 := by simpa [fitsCode] using h
  rw [this]
  decide

theorem TextsFit.powerOnReset (rate1 rate0 : Bool) :
    TextsFit.Statement (.powerOnReset rate1 rate0) := of_none rfl

theorem TextsFit.lineReset :
    TextsFit.Statement (.lineReset) := of_none rfl

theorem TextsFit.resetRelease (rate1 rate0 : Bool) :
    TextsFit.Statement (.resetRelease rate1 rate0) := of_none rfl

theorem TextsFit.frameReceive (levels : List Bool) :
    TextsFit.Statement (.frameReceive levels) := of_none rfl

theorem TextsFit.linkRefusal (sender : StationId) (kind : Fin 64) (tag : Fin 16) :
    TextsFit.Statement (.linkRefusal sender kind tag) := of_none rfl

theorem TextsFit.responseSend (outcome : SendOutcome) :
    TextsFit.Statement (.responseSend outcome) := of_none rfl

theorem TextsFit.secondTick :
    TextsFit.Statement (.secondTick) := of_none rfl

theorem TextsFit.queueTimeExpiry (slot : Slot) :
    TextsFit.Statement (.queueTimeExpiry slot) := of_none rfl

theorem TextsFit.soakExpiry (handler : HandlerId) :
    TextsFit.Statement (.soakExpiry handler) := of_none rfl

theorem TextsFit.stagingDeadlineExpiry (tester : TesterId) :
    TextsFit.Statement (.stagingDeadlineExpiry tester) := of_none rfl

theorem TextsFit.stallExpiry (handler : HandlerId) :
    TextsFit.Statement (.stallExpiry handler) := of_none rfl

theorem TextsFit.stationEnroll (m : Msg) (station : Nat) (roles : Byte) (handler : Option Nat) :
    TextsFit.Statement (.stationEnroll m station roles handler) := of_none rfl

theorem TextsFit.stationRemove (m : Msg) (station : Nat) :
    TextsFit.Statement (.stationRemove m station) := of_none rfl

theorem TextsFit.attentionRead (m : Msg) :
    TextsFit.Statement (.attentionRead m) := of_none rfl

theorem TextsFit.attentionMask (m : Msg) (kinds : Option (BitVec 16)) :
    TextsFit.Statement (.attentionMask m kinds) := of_none rfl

theorem TextsFit.timeSet (m : Msg) (time : Time) :
    TextsFit.Statement (.timeSet m time) := of_none rfl

theorem TextsFit.partStatus (m : Msg) :
    TextsFit.Statement (.partStatus m) := of_none rfl

theorem TextsFit.lotRegister (m : Msg) (lot : Text) (product : Text) (quantity : Nat) (priority : Nat) :
    TextsFit.Statement (.lotRegister m lot product quantity priority) := by
  intro h t ht
  simp only [Instr.wellFormed, Bool.and_eq_true] at h
  simp only [Instr.texts, List.mem_cons, List.not_mem_nil, or_false] at ht
  rcases ht with rfl | rfl
  · exact lotId h.1.1.1
  · exact code h.1.1.2

theorem TextsFit.lotQuery (m : Msg) (lot : Text) (part : LotPart) :
    TextsFit.Statement (.lotQuery m lot part) := by
  intro h t ht
  simp only [Instr.wellFormed, Bool.and_eq_true] at h
  simp only [Instr.texts, List.mem_cons, List.not_mem_nil, or_false] at ht
  subst ht
  exact lotId h.1

theorem TextsFit.lotScan (m : Msg) (after : Option Nat) :
    TextsFit.Statement (.lotScan m after) := of_none rfl

theorem TextsFit.lotPurge (m : Msg) (lot : Text) :
    TextsFit.Statement (.lotPurge m lot) := by
  intro h t ht
  simp only [Instr.wellFormed] at h
  simp only [Instr.texts, List.mem_cons, List.not_mem_nil, or_false] at ht
  subst ht
  exact lotId h

theorem TextsFit.lotEnd (m : Msg) (lot : Text) :
    TextsFit.Statement (.lotEnd m lot) := by
  intro h t ht
  simp only [Instr.wellFormed] at h
  simp only [Instr.texts, List.mem_cons, List.not_mem_nil, or_false] at ht
  subst ht
  exact lotId h

theorem TextsFit.productDefine (m : Msg) (index : Nat) (code : Text) (count : Nat) (number : Nat) (step : StepGiven) :
    TextsFit.Statement (.productDefine m index code count number step) := by
  intro h t ht
  simp only [Instr.wellFormed, Bool.and_eq_true] at h
  simp only [Instr.texts, List.mem_cons, List.not_mem_nil, or_false] at ht
  subst ht
  exact TextsFit.code h.1.1.1.2

theorem TextsFit.productRemove (m : Msg) (name : ProductName) :
    TextsFit.Statement (.productRemove m name) := by
  intro h t ht
  cases name <;> simp [Instr.texts] at ht
  subst ht
  simp only [Instr.wellFormed, ProductName.fits] at h
  exact TextsFit.code h

theorem TextsFit.productQuery (m : Msg) (name : ProductName) (part : ProductPart) :
    TextsFit.Statement (.productQuery m name part) := by
  intro h t ht
  cases name <;> simp [Instr.texts] at ht
  subst ht
  simp only [Instr.wellFormed, ProductName.fits, Bool.and_eq_true] at h
  exact TextsFit.code h.1

theorem TextsFit.programDefine (m : Msg) (programId revision : Nat) (signature : Signature) (estimate : Nat) :
    TextsFit.Statement (.programDefine m programId revision signature estimate) := of_none rfl

theorem TextsFit.programWithdraw (m : Msg) (programId revision : Nat) :
    TextsFit.Statement (.programWithdraw m programId revision) := of_none rfl

theorem TextsFit.programRemove (m : Msg) (programId revision : Nat) :
    TextsFit.Statement (.programRemove m programId revision) := of_none rfl

theorem TextsFit.programQuery (m : Msg) (key : LibraryKey) :
    TextsFit.Statement (.programQuery m key) := of_none rfl

theorem TextsFit.callWork (m : Msg) :
    TextsFit.Statement (.callWork m) := of_none rfl

theorem TextsFit.lotBegin (m : Msg) (lot : Text) :
    TextsFit.Statement (.lotBegin m lot) := by
  intro h t ht
  simp only [Instr.wellFormed] at h
  simp only [Instr.texts, List.mem_cons, List.not_mem_nil, or_false] at ht
  subst ht
  exact lotId h

theorem TextsFit.lotPriority (m : Msg) (lot : Text) (priority : Nat) :
    TextsFit.Statement (.lotPriority m lot priority) := by
  intro h t ht
  simp only [Instr.wellFormed, Bool.and_eq_true] at h
  simp only [Instr.texts, List.mem_cons, List.not_mem_nil, or_false] at ht
  subst ht
  exact lotId h.1

theorem TextsFit.queueQuery (m : Msg) (queue : Option TempClass) (start : Nat) :
    TextsFit.Statement (.queueQuery m queue start) := of_none rfl

theorem TextsFit.dispatchConfig (m : Msg) (settings : Option SettingsGiven) :
    TextsFit.Statement (.dispatchConfig m settings) := of_none rfl

theorem TextsFit.handlerConfig (m : Msg) (handler : Nat) (capability : Byte) (sites ramp stall lookahead : Nat) :
    TextsFit.Statement (.handlerConfig m handler capability sites ramp stall lookahead) := of_none rfl

theorem TextsFit.handlerOnline (m : Msg) :
    TextsFit.Statement (.handlerOnline m) := of_none rfl

theorem TextsFit.handlerOffline (m : Msg) (handler : Option Nat) :
    TextsFit.Statement (.handlerOffline m handler) := of_none rfl

theorem TextsFit.dock (m : Msg) (handler tester : Nat) :
    TextsFit.Statement (.dock m handler tester) := of_none rfl

theorem TextsFit.undock (m : Msg) (handler : Nat) :
    TextsFit.Statement (.undock m handler) := of_none rfl

theorem TextsFit.kitInstalled (m : Msg) (kit : Option Nat) :
    TextsFit.Statement (.kitInstalled m kit) := of_none rfl

theorem TextsFit.tempReached (m : Msg) (setpoint : Int) :
    TextsFit.Statement (.tempReached m setpoint) := of_none rfl

theorem TextsFit.tempLost (m : Msg) :
    TextsFit.Statement (.tempLost m) := of_none rfl

theorem TextsFit.handlerLock (m : Msg) (handler : Nat) :
    TextsFit.Statement (.handlerLock m handler) := of_none rfl

theorem TextsFit.handlerUnlock (m : Msg) (handler : Nat) :
    TextsFit.Statement (.handlerUnlock m handler) := of_none rfl

theorem TextsFit.cellStatus (m : Msg) (handler : Option Nat) (part : Option CellPart) :
    TextsFit.Statement (.cellStatus m handler part) := of_none rfl

theorem TextsFit.testerConfigEnable (m : Msg) (tester : Nat) :
    TextsFit.Statement (.testerConfigEnable m tester) := of_none rfl

theorem TextsFit.testerConfigDisable (m : Msg) (tester : Nat) :
    TextsFit.Statement (.testerConfigDisable m tester) := of_none rfl

theorem TextsFit.testerConfigClearActive (m : Msg) (tester : Nat) :
    TextsFit.Statement (.testerConfigClearActive m tester) := of_none rfl

theorem TextsFit.testerQuery (m : Msg) (tester : Nat) :
    TextsFit.Statement (.testerQuery m tester) := of_none rfl

theorem TextsFit.stageProgram (m : Msg) (tester programId revision : Nat) :
    TextsFit.Statement (.stageProgram m tester programId revision) := of_none rfl

theorem TextsFit.programLoaded (m : Msg) (tester : Option Nat) (programId revision : Nat) (signature : Signature) :
    TextsFit.Statement (.programLoaded m tester programId revision signature) := of_none rfl

theorem TextsFit.stageAbort (m : Msg) (tester : Option Nat) :
    TextsFit.Statement (.stageAbort m tester) := of_none rfl

theorem TextsFit.deviationSet (m : Msg) (product step fromRevision substitute remaining : Nat) :
    TextsFit.Statement (.deviationSet m product step fromRevision substitute remaining) := of_none rfl

theorem TextsFit.deviationClear (m : Msg) (entry : Nat) :
    TextsFit.Statement (.deviationClear m entry) := of_none rfl

theorem TextsFit.deviationQuery (m : Msg) (entry : Option Nat) :
    TextsFit.Statement (.deviationQuery m entry) := of_none rfl

theorem TextsFit.touchdown (m : Msg) (lot : Text) (index : BitVec 16) (results : List Nat) :
    TextsFit.Statement (.touchdown m lot index results) := by
  intro h t ht
  simp only [Instr.wellFormed, Bool.and_eq_true] at h
  simp only [Instr.texts, List.mem_cons, List.not_mem_nil, or_false] at ht
  subst ht
  exact lotId h.1.1

theorem TextsFit.siteEnable (m : Msg) (handler site : Nat) :
    TextsFit.Statement (.siteEnable m handler site) := of_none rfl

theorem TextsFit.yieldQuery (m : Msg) (handler : Option Nat) (part : YieldPart) :
    TextsFit.Statement (.yieldQuery m handler part) := of_none rfl

theorem TextsFit.lotHold (m : Msg) (lot : Text) :
    TextsFit.Statement (.lotHold m lot) := by
  intro h t ht
  simp only [Instr.wellFormed] at h
  simp only [Instr.texts, List.mem_cons, List.not_mem_nil, or_false] at ht
  subst ht
  exact lotId h

theorem TextsFit.lotDisposeContinue (m : Msg) (lot : Text) (reason : Nat) :
    TextsFit.Statement (.lotDisposeContinue m lot reason) := by
  intro h t ht
  simp only [Instr.wellFormed, Bool.and_eq_true] at h
  simp only [Instr.texts, List.mem_cons, List.not_mem_nil, or_false] at ht
  subst ht
  exact lotId h.1

theorem TextsFit.lotDisposeRescreen (m : Msg) (lot : Text) (reason : Nat) :
    TextsFit.Statement (.lotDisposeRescreen m lot reason) := by
  intro h t ht
  simp only [Instr.wellFormed, Bool.and_eq_true] at h
  simp only [Instr.texts, List.mem_cons, List.not_mem_nil, or_false] at ht
  subst ht
  exact lotId h.1

theorem TextsFit.lotDisposeScrap (m : Msg) (lot : Text) (reason : Nat) :
    TextsFit.Statement (.lotDisposeScrap m lot reason) := by
  intro h t ht
  simp only [Instr.wellFormed, Bool.and_eq_true] at h
  simp only [Instr.texts, List.mem_cons, List.not_mem_nil, or_false] at ht
  subst ht
  exact lotId h.1

theorem TextsFit.drained (m : Msg) (lot : Text) :
    TextsFit.Statement (.drained m lot) := by
  intro h t ht
  simp only [Instr.wellFormed] at h
  simp only [Instr.texts, List.mem_cons, List.not_mem_nil, or_false] at ht
  subst ht
  exact lotId h

theorem TextsFit.lotEndorse (m : Msg) (lot : Text) (role : Nat) :
    TextsFit.Statement (.lotEndorse m lot role) := by
  intro h t ht
  simp only [Instr.wellFormed, Bool.and_eq_true] at h
  simp only [Instr.texts, List.mem_cons, List.not_mem_nil, or_false] at ht
  subst ht
  exact lotId h.1

theorem TextsFit.endorseWithdraw (m : Msg) (lot : Text) :
    TextsFit.Statement (.endorseWithdraw m lot) := by
  intro h t ht
  simp only [Instr.wellFormed] at h
  simp only [Instr.texts, List.mem_cons, List.not_mem_nil, or_false] at ht
  subst ht
  exact lotId h

theorem TextsFit.shipCollect (m : Msg) (lot : Text) :
    TextsFit.Statement (.shipCollect m lot) := by
  intro h t ht
  simp only [Instr.wellFormed] at h
  simp only [Instr.texts, List.mem_cons, List.not_mem_nil, or_false] at ht
  subst ht
  exact lotId h

theorem TextsFit.releaseQuery (m : Msg) (part : ReleasePart) :
    TextsFit.Statement (.releaseQuery m part) := by
  intro h t ht
  cases part <;> simp [Instr.texts] at ht
  subst ht
  simp only [Instr.wellFormed, ReleasePart.fits] at h
  exact lotId h

end Sys2Proof.Laws
end

