-- ==== Sys2Proof/Laws/Posts.lean ====
section
/-! SUPPORT. Laws/Posts.lean: the shared operations leave the part's posts as they were: who is docked, bound and locked to whom,
which testers are configured, and the roles and masks of the stations; and the hold checks keep every handler's configuration. -/

namespace Sys2Proof.Machine

/-- Two states have the same docking, binding, locks, tester configuration, and station roles and masks. -/
structure SamePosts (s t : State) : Prop where
  handlers : ∀ h : HandlerId, t.handlers[h].bound = s.handlers[h].bound ∧ t.handlers[h].docked = s.handlers[h].docked ∧
    t.handlers[h].lock = s.handlers[h].lock
  testers : ∀ u : TesterId, t.testers[u].docked = s.testers[u].docked ∧ t.testers[u].configured = s.testers[u].configured
  stations : ∀ i : StationId, t.stations[i].enrolled = s.stations[i].enrolled ∧ t.stations[i].roles = s.stations[i].roles ∧
    t.stations[i].bound = s.stations[i].bound ∧ t.stations[i].mask = s.stations[i].mask

theorem SamePosts.refl (s : State) : SamePosts s s := ⟨fun _ => ⟨rfl, rfl, rfl⟩, fun _ => ⟨rfl, rfl⟩, fun _ => ⟨rfl, rfl, rfl, rfl⟩⟩

theorem SamePosts.trans {s t u : State} (a : SamePosts s t) (b : SamePosts t u) : SamePosts s u :=
  ⟨fun h => ⟨(b.handlers h).1.trans (a.handlers h).1, (b.handlers h).2.1.trans (a.handlers h).2.1,
      (b.handlers h).2.2.trans (a.handlers h).2.2⟩,
   fun i => ⟨(b.testers i).1.trans (a.testers i).1, (b.testers i).2.trans (a.testers i).2⟩,
   fun i => ⟨(b.stations i).1.trans (a.stations i).1, (b.stations i).2.1.trans (a.stations i).2.1,
      (b.stations i).2.2.1.trans (a.stations i).2.2.1, (b.stations i).2.2.2.trans (a.stations i).2.2.2⟩⟩

/-- The posts read handlers, testers and stations alone. -/
theorem SamePosts.of_tables {s t : State} (hh : t.handlers = s.handlers) (ht : t.testers = s.testers)
    (hs : t.stations = s.stations) : SamePosts s t :=
  ⟨fun h => by rw [hh]; exact ⟨rfl, rfl, rfl⟩, fun i => by rw [ht]; exact ⟨rfl, rfl⟩,
   fun i => by rw [hs]; exact ⟨rfl, rfl, rfl, rfl⟩⟩

variable (s : State)

/-! ### Elementary changes -/

theorem posts_updHandler (g : HandlerId) (f : Handler → Handler)
    (hf : ∀ x : Handler, (f x).bound = x.bound ∧ (f x).docked = x.docked ∧ (f x).lock = x.lock) :
    SamePosts s (s.updHandler g f) := by
  refine ⟨fun h => ?_, fun _ => ⟨rfl, rfl⟩, fun _ => ⟨rfl, rfl, rfl, rfl⟩⟩
  rw [State.updHandler_handlers, set_getElem_fin]
  split
  · next e => subst e; exact hf _
  · exact ⟨rfl, rfl, rfl⟩

theorem posts_updTester (t : TesterId) (f : Tester → Tester)
    (hf : ∀ x : Tester, (f x).docked = x.docked ∧ (f x).configured = x.configured) : SamePosts s (s.updTester t f) := by
  refine ⟨fun _ => ⟨rfl, rfl, rfl⟩, fun u => ?_, fun _ => ⟨rfl, rfl, rfl, rfl⟩⟩
  rw [State.updTester_testers, set_getElem_fin]
  split
  · next e => subst e; exact hf _
  · exact ⟨rfl, rfl⟩

theorem posts_updStation_mark (j : StationId) (k : AttentionKind) (u : BitVec 16) :
    SamePosts s (s.updStation j (Station.mark k u)) := by
  refine ⟨fun _ => ⟨rfl, rfl, rfl⟩, fun _ => ⟨rfl, rfl⟩, fun i => ?_⟩
  rw [State.updStation_stations, set_getElem_fin]
  split
  · next e => subst e; simp
  · exact ⟨rfl, rfl, rfl, rfl⟩

theorem posts_markBound (h : HandlerId) (k : AttentionKind) (u : BitVec 16) : SamePosts s (s.markBound h k u) := by
  unfold State.markBound
  split
  · exact posts_updStation_mark s _ k u
  · exact .refl s

theorem SamePosts.mark {s t : State} (a : SamePosts s t) {h : HandlerId} {k : AttentionKind} {u : BitVec 16} :
    SamePosts s (t.markBound h k u) :=
  a.trans (posts_markBound t h k u)

theorem posts_markRoles (rs : List Role) (k : AttentionKind) (u : BitVec 16) : SamePosts s (s.markRoles rs k u) := by
  refine ⟨fun _ => ⟨rfl, rfl, rfl⟩, fun _ => ⟨rfl, rfl⟩, fun i => ?_⟩
  rw [State.markRoles_station]
  split <;> simp

theorem posts_markComplete (l : Lot) : SamePosts s (s.markComplete l) := by
  unfold State.markComplete
  split <;> exact posts_markRoles s _ _ _

theorem posts_markStagingFault (t : TesterId) : SamePosts s (s.markStagingFault t) := by
  unfold State.markStagingFault
  split
  · exact (posts_markBound s _ _ _).trans (posts_markRoles _ _ _ _)
  · exact posts_markRoles s _ _ _

/-! ### Shared operations -/

theorem posts_readyCheck (h : HandlerId) : SamePosts s (s.readyCheck h) := by
  unfold State.readyCheck
  split
  · split
    · exact .mark (posts_updHandler s h _ (by intro; exact ⟨rfl, rfl, rfl⟩))
    · exact .refl s
  · split
    · exact .refl s
    · exact posts_updHandler s h _ (by intro; exact ⟨rfl, rfl, rfl⟩)
  · exact .refl s

theorem posts_applySetup (h : HandlerId) (k : Slot) : SamePosts s (s.applySetup h k) := by
  unfold State.applySetup
  split
  · exact .refl s
  · dsimp only
    split <;> split
    · exact .mark (.mark (posts_updHandler s h _ (by intro; exact ⟨rfl, rfl, rfl⟩)))
    · exact .mark (posts_updHandler s h _ (by intro; exact ⟨rfl, rfl, rfl⟩))
    · exact .mark (posts_updHandler s h _ (by intro; exact ⟨rfl, rfl, rfl⟩))
    · exact posts_updHandler s h _ (by intro; exact ⟨rfl, rfl, rfl⟩)

theorem posts_startLoad (t : TesterId) (p : Program) (n : Nat) : SamePosts s (s.startLoad t p n) := by
  unfold State.startLoad
  split
  · exact .refl s
  · dsimp only
    split
    · exact .mark (posts_updTester s t _ (by intro; exact ⟨rfl, rfl⟩))
    · exact posts_updTester s t _ (by intro; exact ⟨rfl, rfl⟩)

theorem posts_beginStaging (t : TesterId) (p : Program) : SamePosts s (s.beginStaging t p) := by
  unfold State.beginStaging
  split
  · exact .refl s
  · split
    · split
      · split
        · exact posts_updTester s t _ (by intro; exact ⟨rfl, rfl⟩)
        · exact .refl s
      · exact posts_startLoad s t p 1
    · exact posts_startLoad s t p 1

theorem posts_updPending (d : Option DevId) (f : Nat → Nat) : SamePosts s (s.updPending d f) := by
  obtain ⟨ds, h⟩ := s.updPending_frame d f
  rw [h]
  exact .of_tables rfl rfl rfl

theorem posts_cancelReservation (k : Slot) (held : Bool) : SamePosts s (s.cancelReservation k held) := by
  unfold State.cancelReservation
  split
  · exact .refl s
  · split
    · refine SamePosts.trans ?_ (posts_markBound _ _ _ _)
      refine SamePosts.trans ?_ (posts_updHandler _ _ _ (by intro; exact ⟨rfl, rfl, rfl⟩))
      exact (posts_updPending s _ _).trans (.of_tables rfl rfl rfl)
    · exact .refl s

theorem posts_reserve (h : HandlerId) (l : Lot) : SamePosts s (s.reserve h l) := by
  unfold State.reserve
  split
  · next w _ =>
    have base : SamePosts s (((s.setLotState l.slot (.reserved w h (s.resolve l))).updPending (s.resolve l).deviation
        (fun n => n + 1)).updHandler h (fun x => { x with cell := x.cell.takeReserved l.slot })) :=
      ((SamePosts.of_tables rfl rfl rfl : SamePosts s (s.setLotState l.slot _)).trans (posts_updPending _ _ _)).trans
        (posts_updHandler _ _ _ (by intro; exact ⟨rfl, rfl, rfl⟩))
    have fin : ∀ s2, SamePosts s s2 →
        SamePosts s (if s.handlers[h].cell.current.isSome then s2 else (s2.applySetup h l.slot).readyCheck h) := by
      intro s2 h2
      split
      · exact h2
      · exact (h2.trans (posts_applySetup _ _ _)).trans (posts_readyCheck _ _)
    dsimp only
    apply fin
    split
    · exact base.trans (posts_beginStaging _ _ _)
    · exact base
  · exact .refl s

theorem posts_afterLoad (t : TesterId) : SamePosts s (s.afterLoad t) := by
  unfold State.afterLoad
  split
  · exact .refl s
  · split
    · exact .refl s
    · split
      · exact posts_readyCheck s _
      · split
        · split
          · split
            · exact posts_startLoad s _ _ _
            · exact posts_cancelReservation s _ _
          · exact posts_startLoad s _ _ _
        · exact posts_startLoad s _ _ _

theorem posts_loadEnded (t : TesterId) : SamePosts s (s.loadEnded t) := by
  unfold State.loadEnded
  split
  · exact (posts_markStagingFault s t).trans (posts_afterLoad _ t)
  · exact posts_afterLoad s t

theorem posts_release (l : Lot) : SamePosts s (s.release l) :=
  SamePosts.trans (t := { s with releaseQueue := s.releaseQueue ++ [s.releaseRecord l] }.setLotState l.slot .released)
    (.of_tables rfl rfl rfl) (posts_markRoles _ _ _ _)

theorem posts_offerPlace : SamePosts s s.offerPlace := by
  unfold State.offerPlace
  split
  · exact posts_release s _
  · exact .refl s

theorem posts_recall (k : Slot) : SamePosts s (s.recall k) :=
  SamePosts.trans (t := (s.dropRecord k).updLot k (fun l => { l with state := .held, endorsements := [] }))
    (.of_tables rfl rfl rfl) (posts_offerPlace _)

theorem posts_collect (k : Slot) : SamePosts s (s.collect k) :=
  SamePosts.trans (t := (s.dropRecord k).dropLot k) (.of_tables rfl rfl rfl) (posts_offerPlace _)

theorem posts_addHold (k : Slot) (r : HoldReason) (who : Option StationId) (gs : BitVec 4) :
    SamePosts s (s.addHold k r who gs).1 := by
  unfold State.addHold
  split
  · exact .refl s
  · split
    · exact .refl s
    · exact SamePosts.trans (t := s.updLot k _) (.of_tables rfl rfl rfl) (posts_markRoles _ _ _ _)

theorem posts_startDrain (k : Slot) (h : HandlerId) (p : Resolved) (r : HoldReason) :
    SamePosts s (s.startDrain k h p r) := by
  refine SamePosts.trans ?_ (posts_markBound _ _ _ _)
  exact SamePosts.trans (t := s.setLotState k (.draining h p r)) (.of_tables rfl rfl rfl)
    (posts_updHandler _ _ _ (by intro; exact ⟨rfl, rfl, rfl⟩))

theorem posts_placeHold (k : Slot) (r : HoldReason) (who : Option StationId) (gs : BitVec 4) :
    SamePosts s (s.placeHold k r who gs).1 := by
  have ha := posts_addHold s k r who gs
  unfold State.placeHold
  split
  · exact .refl s
  · split
    · exact .refl s
    · dsimp only
      split
      · exact ha.trans (.of_tables rfl rfl rfl)
      · exact ha.trans (posts_cancelReservation _ _ _)
      · exact ha.trans (posts_startDrain _ _ _ _ _)
      · exact ha
      · exact ha
      · exact ha.trans (.of_tables rfl rfl rfl)
      · exact ha.trans (posts_recall _ _)
      · exact ha

theorem posts_leaveHandler (h : HandlerId) : SamePosts s (s.leaveHandler h) := by
  unfold State.leaveHandler
  dsimp only
  split
  · refine SamePosts.trans ?_ (posts_readyCheck _ _)
    refine SamePosts.trans ?_ (posts_applySetup _ _ _)
    exact SamePosts.trans (t := { s with guards := s.guards.set h none }) (.of_tables rfl rfl rfl)
      (posts_updHandler _ _ _ (by intro; exact ⟨rfl, rfl, rfl⟩))
  · exact SamePosts.trans (t := { s with guards := s.guards.set h none }) (.of_tables rfl rfl rfl)
      (posts_updHandler _ _ _ (by intro; exact ⟨rfl, rfl, rfl⟩))

theorem posts_proceed (k : Slot) : SamePosts s (s.proceed k) := by
  unfold State.proceed
  split
  · exact .refl s
  · split
    · exact .of_tables rfl rfl rfl
    · exact SamePosts.trans (t := s.setLotState k (.complete none)) (.of_tables rfl rfl rfl) (posts_markComplete _ _)

theorem posts_afterClose (k : Slot) : SamePosts s (s.afterClose k) := by
  unfold State.afterClose
  split
  · exact .refl s
  · split
    · exact posts_proceed s k
    · exact .of_tables rfl rfl rfl

theorem posts_addHoldIf (c : Bool) (k : Slot) (r : HoldReason) : SamePosts s (s.addHoldIf c k r).1 := by
  unfold State.addHoldIf
  split
  · exact posts_addHold s k r none 0
  · exact .refl s

theorem posts_closeStep (l : Lot) : SamePosts s (s.closeStep l).1 :=
  ((posts_addHoldIf s _ _ _).trans (posts_addHoldIf _ _ _ _)).trans (.of_tables rfl rfl rfl)

theorem posts_afterContinue (k : Slot) : SamePosts s (s.afterContinue k) := by
  unfold State.afterContinue
  split
  · exact .refl s
  · split
    · exact .refl s
    · split
      · exact posts_proceed s k
      · split
        · exact .of_tables rfl rfl rfl
        · exact posts_addHold s _ _ _ _

/-- A fold of operations that keep the posts keeps the posts. -/
theorem posts_foldl {α : Type} (f : State → α → State) (hf : ∀ u a, SamePosts u (f u a)) (xs : List α) :
    SamePosts s (xs.foldl f s) :=
  foldl_keeps (SamePosts s) f (fun u a h => h.trans (hf u a)) xs s (.refl s)

theorem posts_holdRunning (p : Program) (t : TesterId) : SamePosts s (State.holdRunning p s t) := by
  unfold State.holdRunning
  split
  · exact .refl s
  · split
    · exact .refl s
    · split
      · exact .refl s
      · split
        · exact posts_placeHold s _ _ _ _
        · exact .refl s

theorem posts_readyCheckAt (t : TesterId) : SamePosts s (s.readyCheckAt t) := by
  unfold State.readyCheckAt
  split
  · exact posts_readyCheck s _
  · exact .refl s

theorem posts_applyWithdrawal (p : Program) : SamePosts s (s.applyWithdrawal p) := by
  unfold State.applyWithdrawal State.cancelAll
  dsimp only
  refine SamePosts.trans ?_ (posts_foldl _ _ (fun u t => posts_readyCheckAt u t) _)
  refine SamePosts.trans ?_ (posts_foldl _ _ (fun u t => posts_loadEnded u t) _)
  refine SamePosts.trans ?_ (posts_foldl _ _ (fun u t => posts_holdRunning u p t) _)
  refine SamePosts.trans (posts_foldl s (fun u (l : Lot) => u.cancelReservation l.slot false)
    (fun u l => posts_cancelReservation u l.slot false) (s.lots.filter (Lot.reservedWith p))) ?_
  refine ⟨fun _ => ⟨rfl, rfl, rfl⟩, fun u => ?_, fun _ => ⟨rfl, rfl, rfl, rfl⟩⟩
  rw [vecMap_getElem_fin]
  exact ⟨rfl, rfl⟩

theorem posts_tripIf (b : Bool) (k : Slot) (r : HoldReason) (gs : BitVec 4) (c : Checked) :
    SamePosts c.state (c.tripIf b k r gs).state := by
  unfold Checked.tripIf
  split
  · exact posts_placeHold _ _ _ _ _
  · exact .refl _

theorem posts_rearmIf (b : Bool) (k : Slot) (c : Checked) : SamePosts c.state (c.rearmIf b k).state := by
  unfold Checked.rearmIf
  split
  · exact .of_tables rfl rfl rfl
  · exact .refl _

theorem posts_holdChecks (st : RouteStep) (k : Slot) (r : StepRecord) (ring : List Bool) :
    SamePosts s (holdChecks st k r ring s).state :=
  ((((posts_tripIf _ _ _ _ ⟨s, []⟩).trans (posts_tripIf _ _ _ _ _)).trans (posts_rearmIf _ _ _)).trans
    (posts_tripIf _ _ _ _ _)).trans (posts_tripIf _ _ _ _ _)

theorem posts_siteCheck (st : RouteStep) (h : HandlerId) (sites : Vector SiteCount 8) :
    SamePosts s (s.siteCheck st h sites).1 := by
  unfold State.siteCheck
  split
  · exact .mark (posts_updHandler s h _ (by intro; exact ⟨rfl, rfl, rfl⟩))
  · exact .refl s

theorem posts_checkTouchdown (h : HandlerId) (k : Slot) : SamePosts s (s.checkTouchdown h k).1.state := by
  unfold State.checkTouchdown
  split
  · exact (posts_holdChecks s _ _ _ _).trans (posts_siteCheck _ _ _ _)
  · exact .refl s

theorem posts_lookahead (h : HandlerId) : SamePosts s (s.lookahead h).1 := by
  unfold State.lookahead
  split
  · split
    · exact posts_reserve s h _
    · exact .refl s
  · exact .refl s

/-! ### What keeps every handler's configuration -/

theorem config_updHandler (g : HandlerId) (f : Handler → Handler) (hf : ∀ x, (f x).config = x.config) (h : HandlerId) :
    (s.updHandler g f).handlers[h].config = s.handlers[h].config := by
  rw [State.updHandler_handlers, set_getElem_fin]
  split
  · next e => subst e; exact hf _
  · rfl

theorem config_markBound (g : HandlerId) (k : AttentionKind) (u : BitVec 16) (h : HandlerId) :
    (s.markBound g k u).handlers[h].config = s.handlers[h].config := by
  obtain ⟨_, e⟩ := s.markBound_frame g k u
  rw [e]

theorem config_cancelReservation (k : Slot) (held : Bool) (h : HandlerId) :
    (s.cancelReservation k held).handlers[h].config = s.handlers[h].config := by
  unfold State.cancelReservation
  split
  · rfl
  · split
    · next w g r _ =>
      obtain ⟨_, e⟩ := s.updPending_frame r.deviation (fun n => n - 1)
      rw [e]
      exact (config_markBound _ _ _ _ h).trans (config_updHandler _ g Handler.dropReserved (fun _ => rfl) h)
    · rfl

theorem config_placeHold (k : Slot) (r : HoldReason) (who : Option StationId) (gs : BitVec 4) (h : HandlerId) :
    (s.placeHold k r who gs).1.handlers[h].config = s.handlers[h].config := by
  unfold State.placeHold
  split
  · rfl
  · split
    · rfl
    · dsimp only
      obtain ⟨ls, ss, e⟩ := s.addHold_frame k r who gs
      rw [e]
      split
      · rfl
      · exact config_cancelReservation _ k true h
      · exact (config_markBound _ _ _ _ h).trans (config_updHandler _ _ _ (by intro; rfl) h)
      · rfl
      · rfl
      · rfl
      · obtain ⟨_, _, _, e⟩ := State.recall_frame { s with lots := ls, stations := ss } k
        rw [e]
      · rfl

/-- The hold checks of a touchdown keep every handler's configuration, and with it the sites that the disparity check reads. -/
theorem config_holdChecks (st : RouteStep) (k : Slot) (r : StepRecord) (ring : List Bool) (h : HandlerId) :
    (holdChecks st k r ring s).state.handlers[h].config = s.handlers[h].config := by
  have trip : ∀ (b : Bool) (x : HoldReason) (gs : BitVec 4) (c : Checked),
      (c.tripIf b k x gs).state.handlers[h].config = c.state.handlers[h].config := fun b x gs c => by
    unfold Checked.tripIf
    split
    · exact config_placeHold _ k x none gs h
    · rfl
  have rearm : ∀ (b : Bool) (c : Checked), (c.rearmIf b k).state.handlers[h].config = c.state.handlers[h].config := fun b c => by
    unfold Checked.rearmIf
    split <;> rfl
  unfold holdChecks
  rw [trip, trip, rearm, trip, trip]

end Sys2Proof.Machine
end

