-- ==== Sys2Proof/Laws/Put.lean ====
section
/-! SUPPORT. Laws/Put.lean: with the slots in order, changing the lot of a slot is replacing its record (`State.putLot`), and the
record just put is the one that its slot holds. -/

namespace Sys2Proof.Machine

/-- Two lots of one slot are one lot. -/
theorem State.SlotsInOrder.eq_of_slot {s : State} (hs : s.SlotsInOrder) {a b : Lot} (ha : a ∈ s.lots) (hb : b ∈ s.lots)
    (h : a.slot = b.slot) : a = b := by
  have h1 := State.lot?_of_mem hs ha
  have h2 := State.lot?_of_mem hs hb
  rw [h, h2] at h1
  exact (Option.some.inj h1).symm

/-- A lot found by its id is the one its slot holds. -/
theorem State.SlotsInOrder.lot?_of_named {s : State} (hs : s.SlotsInOrder) {t : Text} {l : Lot} (h : s.lotNamed? t = some l) :
    s.lot? l.slot = some l := State.lot?_of_mem hs (State.lotNamed?_mem h)

/-- Changing the lot of a slot is replacing its record by the changed one. -/
theorem State.SlotsInOrder.updLot_eq {s : State} (hs : s.SlotsInOrder) {l : Lot} (hl : s.lot? l.slot = some l) (f : Lot → Lot)
    (hf : (f l).slot = l.slot) : s.updLot l.slot f = s.putLot (f l) := by
  unfold State.updLot State.putLot
  rw [hf]
  have : s.lots.map (fun x => if x.slot = l.slot then f x else x) = s.lots.map (fun x => if x.slot = l.slot then f l else x) := by
    refine List.map_congr_left (fun x hx => ?_)
    split
    · next h => rw [hs.eq_of_slot hx (State.lot?_mem hl) h]
    · rfl
  rw [this]

/-- The slots stay in order as a record is replaced. -/
theorem State.SlotsInOrder.putLot {s : State} (hs : s.SlotsInOrder) (l : Lot) : (s.putLot l).SlotsInOrder := by
  unfold State.SlotsInOrder State.putLot
  refine List.pairwise_map.2 (hs.imp ?_)
  intro a b h
  split <;> split <;> simp_all

/-- The record just put is the one its slot holds. -/
theorem State.SlotsInOrder.lot?_putLot {s : State} (hs : s.SlotsInOrder) {l x : Lot} (h : s.lot? l.slot = some x) :
    (s.putLot l).lot? l.slot = some l := by
  refine State.lot?_of_mem (hs.putLot l) ?_
  exact List.mem_map.2 ⟨x, State.lot?_mem h, if_pos (State.lot?_slot h)⟩

/-- Another slot reads as before. -/
theorem State.lot?_putLot_ne (s : State) {l : Lot} {k : Slot} (h : k ≠ l.slot) : (s.putLot l).lot? k = s.lot? k := by
  unfold State.lot? State.putLot
  simp only
  generalize s.lots = ls
  induction ls with
  | nil => rfl
  | cons x xs ih =>
    by_cases hx : x.slot = l.slot
    · have h1 : l.slot ≠ k := Ne.symm h
      have h2 : x.slot ≠ k := by rw [hx]; exact h1
      rw [List.map_cons, if_pos hx, List.find?_cons_of_neg (by simpa using h1), List.find?_cons_of_neg (by simpa using h2), ih]
    · rw [List.map_cons, if_neg hx, List.find?_cons, List.find?_cons, ih]

/-- The record put last stands. -/
theorem State.putLot_putLot (s : State) (a b : Lot) (h : a.slot = b.slot) : (s.putLot a).putLot b = s.putLot b := by
  unfold State.putLot
  simp only [List.map_map]
  have : ((fun x : Lot => if x.slot = b.slot then b else x) ∘ fun x => if x.slot = a.slot then a else x) =
      fun x => if x.slot = b.slot then b else x := by
    funext x
    simp only [Function.comp]
    by_cases hx : x.slot = a.slot
    · simp [hx, h]
    · rw [h] at hx; simp [h, hx]
  rw [this]

end Sys2Proof.Machine
end

