-- ==== Sys2Proof/Laws/Request.lean ====
section
/-! SUPPORT. Laws/Request.lean: everything that a request can answer: it waits, it is refused at the link, it is refused for its
layout, or its block answers it. -/

namespace Sys2Proof.Machine

/-- A refusal, or a block's answer, in the words of claims. -/
theorem Reply.send_eq (r : Reply) (m : Msg) (k : Kind) : r.send m.sender k.code m.tag = r.state.answered m k r.result r.body := rfl

/-- With nothing in the receive buffer, taking a request leaves the link as it was. -/
theorem State.taken_of_empty {s : State} (h : s.link.rxBuffer = []) : s.taken = s := by
  have : ({ s.link with rxBuffer := s.link.rxBuffer.tail } : Link) = s.link := by
    cases hl : s.link
    rw [hl] at h
    simp only at h
    simp [h]
  simp [State.taken, this]

/-- A frame is delivered exactly where `delivers` says so, and leaves the receive buffer. -/
theorem State.deliver_eq (s : State) (m : Msg) (k : Kind) (reads : List Byte → Bool) :
    s.deliver m.sender k.code m.tag reads = if s.delivers m k reads then some s.taken else none := by
  unfold State.deliver State.delivers Link.offers
  have hdepth : Config.linkDepth = 4 := rfl
  rw [hdepth]
  cases s.inReset with
  | true => simp
  | false =>
    by_cases h : 4 ≤ s.link.responses.length
    · simp [h, Nat.not_lt.2 h]
    · rw [if_neg (by simpa using h)]
      simp only [Bool.not_false, Nat.lt_of_not_le h, decide_true, Bool.true_and]
      cases hb : s.link.rxBuffer with
      | nil => simp [State.taken_of_empty hb]
      | cons f rest =>
        simp only [State.taken, hb, List.tail_cons]
        rfl

/-- The code of a kind names the kind. -/
theorem Kind.ofCode?_code (k : Kind) : Kind.ofCode? k.code = some k := by
  cases k <;> decide

/-- The checks of the Link Interface for a kind of the table (R172). -/
theorem State.linkCheck_code (s : State) (sender : StationId) (k : Kind) :
    s.linkCheck sender k.code =
      if s.stations[sender].enrolled && k.roleCheck.admits (s.rolesOf sender) then none else some .notPermitted := by
  unfold State.linkCheck
  rw [Kind.ofCode?_code]
  cases he : s.stations[sender].enrolled
  · simp
  · simp only [Bool.not_true, Bool.false_eq_true, if_false, Bool.true_and]
    unfold RoleCheck.admits
    cases k.roleCheck with
    | any => rfl
    | block => rfl
    | roles rs => rfl

/-- A request that is taken is answered by its block, from the state in which its frame has left the buffer. -/
theorem State.request_of_takes {s : State} {k : Kind} {m : Msg} {reads : List Byte → Bool} (block : State → Reply)
    (h : s.takes m k reads = true) :
    s.request k m reads block =
      .next ((block s.taken).state.answered m k (block s.taken).result (block s.taken).body) := by
  simp only [State.takes, Bool.and_eq_true] at h
  obtain ⟨⟨⟨hd, he⟩, hr⟩, hf⟩ := h
  have hl : s.taken.linkCheck m.sender k.code = none := by
    rw [State.linkCheck_code]
    exact if_pos (Bool.and_eq_true_iff.2 ⟨he, hr⟩)
  unfold State.request
  rw [State.deliver_eq, if_pos hd]
  dsimp only
  rw [hl]
  dsimp only
  rw [if_pos hf]
  rfl

/-- Everything a request can do: it changes nothing; it is answered with a refusal; or its block answers it. -/
theorem State.request_cases {s t : State} {k : Kind} {m : Msg} {reads : List Byte → Bool} {block : State → Reply}
    (h : s.request k m reads block = .next t) :
    t = s ∨ (∃ r, t = s.taken.answered m k r .nothing ∧ r ≠ .ok) ∨
    t = (block s.taken).state.answered m k (block s.taken).result (block s.taken).body := by
  unfold State.request at h
  rw [State.deliver_eq] at h
  split at h
  · cases h; exact .inl rfl
  · next s1 hs1 =>
    split at hs1
    · cases hs1
      rw [State.linkCheck_code] at h
      split at h
      · next r hr =>
        split at hr
        · cases hr
        · cases hr; cases h; exact .inr (.inl ⟨.notPermitted, rfl, by decide⟩)
      · split at h
        · cases h; exact .inr (.inr rfl)
        · cases h; exact .inr (.inl ⟨.badFormat, rfl, by decide⟩)
    · cases hs1

/-- A request never ends in a fault or a refusal of the model. -/
theorem State.request_next (s : State) (k : Kind) (m : Msg) (reads : List Byte → Bool) (block : State → Reply) :
    ∃ t, s.request k m reads block = .next t := by
  unfold State.request
  split
  · exact ⟨_, rfl⟩
  · split <;> exact ⟨_, rfl⟩

end Sys2Proof.Machine
end

