-- ==== Sys2Proof/Tests/Slice0.lean ====
section
/-! SUPPORT. Tests/Slice0.lean: small tests by the kernel's evaluation.  First a floor taken from the manual's worked sequences;
then the smoke test of `Instr.wellFormed`; then the manual's worked figures, one step each; then, for each statement that has
hypotheses, a state and operands that meet them (`witness_<statement>`), at the bounds where its clauses meet. -/

open Sys2Proof Sys2Proof.Machine

namespace Sys2Proof.Tests

/-! ### A floor: stations, handler H1 with tester T1, and product AQX20T1B of "Worked Floor Sequences" -/

/-- A request of the station of a number, with tag 0 and a payload that fits. -/
def by' (station : Nat) : Msg := { sender := Fin.ofNat 31 (station - 1), tag := 0, fits := true }

/-- WX1207-A. -/
def lotId : Text := [0x57, 0x58, 0x31, 0x32, 0x30, 0x37, 0x2D, 0x41]

/-- AQX20T1B. -/
def code : Text := [0x41, 0x51, 0x58, 0x32, 0x30, 0x54, 0x31, 0x42]

/-- Step 1 of the product: good bins 1 and 2; bin 3 in group A and bin 4 in group B. -/
def step1 : RouteStep :=
  { setpoint := -40, soak := 900, program := ⟨40, 3⟩, kit := 12, goodBins := 0b11
    groupOf := (Vector.replicate 16 BinGroup.a).set 3 .b, yieldLow := 920, hysteresis := 20, minSample := 200, window := 96
    windowLow := 850, groupLimit := ⟨1000, 40, 1000, 1000⟩, disparity := 60, queueLimit := 240, tolerance := 5 }

/-- Step 2 of the product. -/
def step2 : RouteStep :=
  { step1 with setpoint := 150, soak := 600, program := ⟨41, 1⟩, yieldLow := 950, hysteresis := 50, window := 64, windowLow := 0
               disparity := 0, queueLimit := 0 }

/-- H1's configuration: COLD, 4 sites, 4 s/°C, stall time 120. -/
def config1 : HandlerConfig :=
  { capability := 0b001, siteCount := 4, sitesEnabled := 0b1111, rampRate := 4, stallTime := 120, lookahead := 0 }

/-- An enrolled station with a full mask. -/
def enrolled (roles : RoleSet) (bound : Option HandlerId) : Station :=
  { enrolled := true, roles := roles, bound := bound, mask := fullMask roles, attention := [] }

/-- Station 2 FLOOR, 6 ENGINEERING, 9 QUALITY, 12 DOCK, 21 the CELL station of H1; H1 IDLE with T1 docked and kit 12. -/
def floor : State :=
  { State.reset with
    products := State.reset.products.set 5 ⟨some ⟨code, [step1, step2]⟩, none⟩
    library := (State.reset.library.set 0 (some ⟨⟨40, 3⟩, 0x11, 180, 0, 5, none⟩)).set 1
      (some ⟨⟨41, 1⟩, 0x5A31C0E7, 240, 0, 5, none⟩)
    handlers := State.reset.handlers.set 0
      { Handler.initial with config := some config1, bound := some 20, docked := some 0, cell := .idle, kit := some 12 }
    testers := State.reset.testers.set 0 { Tester.initial with configured := true, docked := some 0 }
    stations := ((((State.reset.stations.set 1 (enrolled 0b000010 none)).set 5 (enrolled 0b010000 none)).set 8
      (enrolled 0b001000 none)).set 11 (enrolled 0b100000 none)).set 20 (enrolled 0b000100 (some 0))
    stampCounter := 117 }

/-- The lot in slot 7, at step 1, in a given state. -/
def lotIn (x : LotState) : Lot :=
  { slot := 7, id := lotId, product := 5, startQuantity := 500, priority := 2, state := x, holds := [], waiver := false
    deviationUsed := false, endorsements := [], past := [], cur := StepRecord.opened 500 }

/-- The wait of the worked selection: 1800 seconds of a countdown of 240 minutes. -/
def wait1 : Wait := { stamp := 118, age := 1800, left := some 12600 }

/-- 40/3 without a deviation. -/
def plain : Resolved := ⟨⟨40, 3⟩, none⟩

/-- The run in progress of the lot on H1. -/
def run1 : RunEntry :=
  { handler := 0, tester := 0, program := ⟨40, 3⟩, deviation := none, beginTime := 0, endTime := none, gapTotal := 0 }

/-- The lot that runs on H1, with the figures before the touchdown that trips YIELD_LOW. -/
def runningLot : Lot :=
  { lotIn (.running 0 plain) with
    cur := { StepRecord.opened 500 with tested := 246, good := 229, fails := ⟨11, 6, 0, 0⟩, runs := [run1] } }

/-- A lot that is held for a reason, its step open after one run. -/
def heldLot (r : HoldReason) : Lot :=
  { lotIn .held with holds := [⟨r, 0, none, 0⟩], cur := { runningLot.cur with runs := [{ run1 with endTime := some 9 }] } }

/-- The floor with some lots, and H1's cell state. -/
def floorWith (cell : Cell) (lots : List Lot) : State :=
  { floor with lots := lots, handlers := floor.handlers.set 0 { floor.handlers[(0 : HandlerId)] with cell := cell } }

/-- The floor with the lot current on H1 and a guard run present. -/
def running (g : GuardRun) : State :=
  let s := floorWith (.running 7 none) [runningLot]
  { s with guards := s.guards.set 0 (some g) }

/-- A guard run of the lot with an index accepted. -/
def guard (last : Option (BitVec 16)) : GuardRun := { freshRun 7 1 with lastIndex := last }

/-- The floor with H1's thermal side set. -/
def State.heated (s : State) (thermal : Thermal) (setpoint : Option Int) (target : Option Target) (soakLeft : Nat) : State :=
  s.updHandler 0 (fun x => { x with thermal := thermal, setpoint := setpoint, target := target, soakLeft := soakLeft })

/-- A load of 40/3 on T1. -/
def load (x : StagedState) (deadline attempts : Nat) : Staged :=
  { state := x, program := ⟨40, 3⟩, expected := 0x11, reported := none, deadline := deadline, attempts := attempts }

/-- The floor with T1's staged slot set. -/
def State.staging (s : State) (g : Option Staged) : State := s.updTester 0 (fun x => { x with staged := g })

/-- The state after a command. -/
def after (i : Instr) (s : State) : State :=
  match exec i s with
  | .next t => t
  | .fault _ => s
  | .refused _ => s

/-- The answer that a request appends: its result and content. -/
def answer? (i : Instr) (s : State) : Option (Result × Body) := (after i s).link.responses.getLast?.map (fun r => (r.result, r.body))

/-- The state and holds of the lot in slot 7. -/
def lot7 (s : State) : Option (LotState × List HoldReason) := (s.lot? 7).map (fun l => (l.state, l.holds.map (·.reason)))

/-- The kinds marked for the station of a number. -/
def marks (s : State) (station : Nat) : List AttentionKind := (s.stations[Fin.ofNat 31 (station - 1)]).attention.map (·.kind)

/-! ### Well-formed commands: one ill-formed term for each check -/

/-- Step fields that fit a frame: those of step 1. -/
def given : StepGiven :=
  { setpoint := -40, soak := 900, programId := 40, revision := 3, kit := 12, goodBins := 3
    groupOf := [0, 0, 0, 1, 0, 0, 0, 0, 0, 0, 0, 0, 0, 0, 0, 0], yieldLow := 920, hysteresis := 20, minSample := 200, window := 96
    windowLow := 850, limitA := 1000, limitB := 40, limitC := 1000, limitD := 1000, disparity := 60, queueLimit := 240
    tolerance := 5 }

theorem test_wf_accepts : (Instr.productDefine (by' 1) 5 code 2 1 given).wellFormed = true ∧
    (Instr.touchdown (by' 21) lotId 65535 [16, 0]).wellFormed = true ∧ (Instr.tempReached (by' 21) (-55)).wellFormed = true := by
  decide
theorem test_wf_byte : (Instr.stationRemove (by' 1) 256).wellFormed = false := by decide
theorem test_wf_two : (Instr.programDefine (by' 1) 40 3 0 65536).wellFormed = false := by decide
theorem test_wf_optional : (Instr.handlerOffline (by' 21) (some 255)).wellFormed = false := by decide
theorem test_wf_setpoint : (Instr.tempReached (by' 21) (-64)).wellFormed = false ∧
    (Instr.tempReached (by' 21) 192).wellFormed = false := by decide
theorem test_wf_lot_id : (Instr.lotPurge (by' 2) (List.replicate 48 0x41)).wellFormed = false := by decide
theorem test_wf_code : (Instr.productRemove (by' 1) (.code [0x41])).wellFormed = false := by decide
theorem test_wf_quantity : (Instr.lotRegister (by' 2) lotId code 16777216 0).wellFormed = false := by decide
theorem test_wf_start_bit : (Instr.frameReceive [true, false]).wellFormed = false := by decide
theorem test_wf_groups : (Instr.productDefine (by' 1) 5 code 1 1 { given with groupOf := [0] }).wellFormed = false := by decide
theorem test_wf_settings : (Instr.dispatchConfig (by' 1) (some ⟨65536, 0, 0⟩)).wellFormed = false ∧
    (Instr.dispatchConfig (by' 1) (some ⟨0, 256, 0⟩)).wellFormed = false := by decide
theorem test_wf_results : (Instr.touchdown (by' 21) lotId 0 [256]).wellFormed = false ∧
    (Instr.touchdown (by' 21) lotId 0 (List.replicate 48 1)).wellFormed = false := by decide
theorem test_wf_lot_part : (Instr.lotQuery (by' 2) lotId (.step 256 0)).wellFormed = false := by decide
theorem test_wf_product_part : (Instr.productQuery (by' 2) (.index 0) (.step 256)).wellFormed = false := by decide
theorem test_wf_library_key : (Instr.programQuery (by' 2) (.scanAfter 256)).wellFormed = false := by decide
theorem test_wf_yield_part : (Instr.yieldQuery (by' 2) none (.sites 256)).wellFormed = false := by decide
theorem test_wf_release_part : (Instr.releaseQuery (by' 2) (.waiting 256)).wellFormed = false := by decide

/-! ### Power, the link, and time -/

theorem test_power_on_reset_straps : (after (.powerOnReset true false) floor).link.bitRate = .kbit500 ∧
    (after (.powerOnReset true false) floor).stations[(1 : StationId)].enrolled = false := by decide

/-- R22: a RUNNING lot is HELD with INTERRUPTED; R131: the guard's run is absent. -/
theorem test_line_reset_interrupts : lot7 (after .lineReset (running (guard none))) = some (.held, [.interrupted]) ∧
    (after .lineReset (running (guard none))).guards[(0 : HandlerId)] = none := by decide

theorem test_reset_release_marks : marks (after (.resetRelease false true) { floor with inReset := true }) 21 = [.partReset] ∧
    (after (.resetRelease false true) { floor with inReset := true }).link.bitRate = .kbit250 := by decide

/-- A level of the line as the manual writes it. -/
def levels (bs : List Nat) : List Bool := bs.map (fun b => b = 1)

/-- PART_STATUS of station 1, priority 1, tag 0, no payload, written out by hand from R167 to R169: start 0, priority 1, sender
00001, receiver 00000, kind 000110, tag 0000, length 000000, check byte 10111100, with a bit inserted after each five equal. -/
def partStatusLevels : List Bool :=
  levels [0, 1, 0, 0, 0, 0, 1, 0, 0, 0, 0, 0, 1, 0, 0, 0, 1, 1, 0, 0, 0, 0, 0, 1, 0, 0, 0, 0, 0, 1, 0, 1, 0, 1, 1, 1, 1, 0, 0]

set_option maxRecDepth 8000 in
theorem test_frame_receive_good : receive partStatusLevels = .good ⟨true, 0, 6, 0, []⟩ := by decide

set_option maxRecDepth 8000 in
/-- TIME_SET of station 1 to 3600, priority 1, tag 3: 73 levels by hand from R167 to R169. -/
theorem test_frame_levels_by_hand : lineLevels true 1 0 5 3 [0, 0, 0x0E, 0x10] =
    levels [0, 1, 0, 0, 0, 0, 1, 0, 0, 0, 0, 0, 1, 0, 0, 0, 1, 0, 1, 0, 0, 1, 1, 0, 0, 0, 1, 0, 0, 0, 0, 0, 1, 0, 0, 0, 0, 0, 1, 0, 0, 0, 0, 0,
            1, 0, 0, 0, 0, 0, 1, 0, 0, 1, 1, 1, 0, 0, 0, 0, 1, 0, 0, 0, 0, 1, 1, 1, 0, 1, 1, 0, 1] := by decide

theorem test_link_refusal_unenrolled : answer? (.linkRefusal 9 6 0) floor = some (.notPermitted, .nothing) := by decide

/-- R174: a response without acknowledge is dropped. -/
theorem test_response_dropped :
    (after (.responseSend .notAcknowledged) (after (.partStatus (by' 2)) floor)).link.dropped = 1 := by decide

/-- R182: floor time wraps; R46: the age holds at 604,800. -/
theorem test_second_tick_bounds :
    (after .secondTick { floor with floorTime := 0xFFFFFFFF }).floorTime = 0 ∧
    ((after .secondTick (floorWith .idle [lotIn (.queued ⟨118, 604800, some 1⟩)])).lot? 7).map (·.state) =
      some (.queued ⟨118, 604800, some 0⟩) := by decide

theorem test_queue_time_expiry : lot7 (after (.queueTimeExpiry 7) (floorWith .idle [lotIn (.queued ⟨118, 9, some 0⟩)])) =
    some (.held, [.queueTime]) := by decide

/-- The soak expiry of "Step 1, first run": all four ready conditions hold, and READY_TO_START goes to station 21. -/
theorem test_soak_expiry_ready :
    let s := (State.staging (State.heated (floorWith (.preparing 7) [lotIn (.reserved wait1 0 plain)]) .soaking (some (-40))
      (some ⟨-40, 900⟩) 0) (some (load .loaded 0 1)))
    (after (.soakExpiry 0) s).handlers[(0 : HandlerId)].cell = .ready 7 ∧ marks (after (.soakExpiry 0) s) 21 = [.readyToStart] := by
  decide

/-- R100: a load whose deadline ran out is restarted with the next attempt count. -/
theorem test_staging_deadline_restarts :
    let s := State.staging (floorWith (.preparing 7) [lotIn (.reserved wait1 0 plain)]) (some (load .loading 0 1))
    (after (.stagingDeadlineExpiry 0) s).testers[(0 : TesterId)].staged = some (load .loading 360 2) := by decide

theorem test_stall_expiry : (after (.stallExpiry 0) (running (guard none))).handlers[(0 : HandlerId)].stalled = true ∧
    marks (after (.stallExpiry 0) (running (guard none))) 2 = [.stalled] := by decide

/-! ### Stations -/

theorem test_station_enroll_answer : answer? (.stationEnroll (by' 1) 4 0b000010 none) floor = some (.ok, .enrolled false) := by decide
theorem test_station_enroll_first : answer? (.stationEnroll (by' 1) 1 0b000010 none) floor = some (.badFormat, .nothing) := by
  decide
theorem test_station_remove_unbinds : (after (.stationRemove (by' 1) 21) floor).handlers[(0 : HandlerId)].bound = none := by decide

/-- R180: the marks are answered and the set is empty afterwards. -/
theorem test_attention_read :
    let s := after (.stallExpiry 0) (running (guard none))
    answer? (.attentionRead (by' 2)) s = some (.ok, .attention [⟨.stalled, 1⟩]) ∧ marks (after (.attentionRead (by' 2)) s) 2 = [] := by
  decide

/-- R181: PART_RESET stays in the mask. -/
theorem test_attention_mask : answer? (.attentionMask (by' 2) (some 0x0240)) floor = some (.ok, .mask 0x1240) := by decide
theorem test_time_set : answer? (.timeSet (by' 1) 3600) floor = some (.ok, .timeSet 0 3600) := by decide
theorem test_part_status_time : (after (.partStatus (by' 2)) floor).floorTime = floor.floorTime := by decide

/-! ### Lots, products, programs -/

/-- "A two-step lot": QUEUED with stamp 118, age 0 and countdown 14,400; here slot 0 is the lowest free. -/
theorem test_lot_register :
    answer? (.lotRegister (by' 2) lotId code 500 2) floor = some (.ok, .registered 0 118) ∧
    ((after (.lotRegister (by' 2) lotId code 500 2) floor).lot? 0).map (·.state) = some (.queued ⟨118, 0, some 14400⟩) := by decide
theorem test_lot_register_duplicate :
    answer? (.lotRegister (by' 2) lotId code 500 2) (floorWith .idle [lotIn .held]) = some (.duplicate, .nothing) := by decide
theorem test_lot_query_holds : answer? (.lotQuery (by' 2) lotId (.holds 0)) (floorWith .idle [heldLot .yieldLow]) =
    some (.ok, .lotHolds .held [⟨.yieldLow, 0, none, 0⟩] false) := by decide
theorem test_lot_scan : answer? (.lotScan (by' 2) (some 7)) (floorWith .idle [lotIn .held]) = some (.empty, .nothing) ∧
    answer? (.lotScan (by' 2) (some 6)) (floorWith .idle [lotIn .held]) = some (.ok, .scanned 7 lotId .held 1) := by decide
theorem test_lot_purge : answer? (.lotPurge (by' 2) lotId) (floorWith .idle [lotIn .scrapped]) = some (.ok, .slotFreed 7) := by decide

/-- "Step 1, second run": the close at tested 500, good 470 has missing 0 and final yield 940, and the lot queues at step 2
without a countdown. -/
theorem test_lot_end :
    let l := { runningLot with cur := { runningLot.cur with tested := 500, good := 470, fails := ⟨22, 8, 0, 0⟩ } }
    answer? (.lotEnd (by' 21) lotId) (floorWith (.running 7 none) [l]) = some (.ok, .lotEnded .queued 0 (some 940) []) ∧
    ((after (.lotEnd (by' 21) lotId) (floorWith (.running 7 none) [l])).lot? 7).map (fun x => (x.state, x.cur.quantityIn)) =
      some (.queued ⟨118, 0, none⟩, 470) := by decide

/-- The table of stored values after R28. -/
theorem test_product_define_stored :
    storedWindow 200 = 192 ∧ storedWindow 8 = 16 ∧ storedWindow 1000 = 256 ∧ storedWindow 256 = 256 ∧
    storedHysteresis 950 80 = 50 ∧ storedHysteresis 920 20 = 20 ∧ storedHysteresis 1000 5 = 0 ∧ storedSoak 5000 = 3600 := by decide
/-- "A product definition", at index 5 of an empty table: k = 1 is answered DRAFT with 1 written and W 96, k = 2 DEFINED with H 50. -/
theorem test_product_define_answers :
    let empty : State := { floor with products := State.reset.products }
    let first := Instr.productDefine (by' 6) 5 code 2 1 { given with window := 100 }
    let second := Instr.productDefine (by' 6) 5 code 2 2 { given with setpoint := 150, soak := 600, yieldLow := 950, hysteresis := 80, window := 64 }
    answer? first empty = some (.ok, .stepOpened .draft 1 900 20 96) ∧
    answer? second (after first empty) = some (.ok, .definitionCompleted .defined 600 50 64) := by decide
theorem test_product_define_continued :
    answer? (.productDefine (by' 6) 6 [0x42] 3 2 given) floor = some (.badFormat, .nothing) ∧
    answer? (.productDefine (by' 6) 6 [0x42, 0x51, 0x58, 0x32, 0x30, 0x54, 0x31, 0x42] 3 2 given)
      { floor with products := floor.products.set 6 ⟨none, some ⟨[0x42, 0x51, 0x58, 0x32, 0x30, 0x54, 0x31, 0x42], 3, [step1], 5⟩⟩ } =
      some (.ok, .stepContinued 2 900 20 96) := by decide
theorem test_product_remove : answer? (.productRemove (by' 6) (.code code)) floor = some (.ok, .productFreed 5) ∧
    answer? (.productRemove (by' 6) (.code code)) (floorWith .idle [lotIn .held]) = some (.inUse, .nothing) := by decide
theorem test_product_query_step : answer? (.productQuery (by' 2) (.index 5) (.step 2)) floor = some (.ok, .productStep step2 .hot) := by
  decide
theorem test_program_define : answer? (.programDefine (by' 6) 40 4 0x22 1800) floor = some (.ok, .libraryEntry 2) ∧
    answer? (.programDefine (by' 6) 40 4 0x22 1801) floor = some (.badFormat, .nothing) := by decide

/-- R105: a lot RESERVED with the revision goes back to its queue. -/
theorem test_program_withdraw_cancels :
    lot7 (after (.programWithdraw (by' 6) 40 3) (floorWith (.preparing 7) [lotIn (.reserved wait1 0 plain)])) =
      some (.queued wait1, []) := by decide
theorem test_program_remove_released : answer? (.programRemove (by' 6) 40 3) floor = some (.inUse, .nothing) := by decide
theorem test_program_query_scan : answer? (.programQuery (by' 2) (.scanAfter 1)) floor = some (.empty, .nothing) := by decide

/-! ### Dispatch -/

/-- The selection of "Step 1, first run": C = 1340 and score 8090; the cell is PREPARING. -/
theorem test_call_work_score :
    answer? (.callWork (by' 21)) (floorWith .idle [lotIn (.queued wait1)]) =
      some (.ok, .workChosen lotId 7 1 (-40) 12 plain (.byScore 1340 8090) .preparing) := by decide

/-- SETPOINT_CHANGE and STAGE_REQUEST go to station 21, and the load's deadline is 360. -/
theorem test_call_work_staging :
    let s := after (.callWork (by' 21)) (floorWith .idle [lotIn (.queued wait1)])
    marks s 21 = [.setpointChange, .stageRequest] ∧ s.testers[(0 : TesterId)].staged = some (load .loading 360 1) := by decide

/-- LOT_BEGIN of the first run: 40/3 is swapped into the active slot, the staged slot is EMPTY, the stall countdown is 120. -/
theorem test_lot_begin_swaps :
    let s := after (.lotBegin (by' 21) lotId) (State.staging (floorWith (.ready 7) [lotIn (.reserved wait1 0 plain)]) (some (load .loaded 0 1)))
    s.testers[(0 : TesterId)].active = some ⟨⟨40, 3⟩, 0x11, false⟩ ∧ s.testers[(0 : TesterId)].staged = none ∧
    s.handlers[(0 : HandlerId)].cell = .running 7 none ∧ s.handlers[(0 : HandlerId)].stallLeft = 120 := by decide
theorem test_lot_begin_held : answer? (.lotBegin (by' 21) lotId) (floorWith .idle [heldLot .manual]) = some (.lotHeld, .nothing) := by
  decide
theorem test_lot_priority : answer? (.lotPriority (by' 2) lotId 0) (floorWith .idle [lotIn (.queued wait1)]) =
    some (.ok, .priority .queued (some 0)) := by decide
theorem test_queue_query : answer? (.queueQuery (by' 2) (some .cold) 0) (floorWith .idle [lotIn (.queued wait1)]) =
    some (.ok, .queue 1 [(7, 2, 30, false)]) := by decide
theorem test_dispatch_config : answer? (.dispatchConfig (by' 1) (some ⟨9000, 16, 20000⟩)) floor =
    some (.ok, .settings ⟨7200, 15, 10080⟩) := by decide
theorem test_dispatch_config_range : answer? (.dispatchConfig (by' 1) (some ⟨0, 255, 0⟩)) floor = some (.ok, .settings ⟨0, 15, 0⟩) ∧
    answer? (.dispatchConfig (by' 1) (some ⟨0, 256, 0⟩)) floor = some (.badFormat, .nothing) := by decide

/-! ### Handlers and testers -/

theorem test_handler_config : answer? (.handlerConfig (by' 6) 1 0b110 8 0 5 10000) floor =
    some (.ok, .handlerConfig ⟨0b110, 8, 0xFF, 1, 10, 9999⟩) := by decide
theorem test_handler_online : answer? (.handlerOnline (by' 21)) (floorWith .offline []) = some (.ok, .nothing) ∧
    answer? (.handlerOnline (by' 21)) floor = some (.wrongState, .nothing) := by decide
theorem test_handler_offline_cancels :
    let s := after (.handlerOffline (by' 21) none) (floorWith (.preparing 7) [lotIn (.reserved wait1 0 plain)])
    lot7 s = some (.queued wait1, []) ∧ s.handlers[(0 : HandlerId)].cell = .offline := by decide
theorem test_dock_duplicate : answer? (.dock (by' 6) 1 1) floor = some (.duplicate, .nothing) := by decide
theorem test_undock : (after (.undock (by' 6) 1) floor).testers[(0 : TesterId)].docked = none := by decide
theorem test_kit_installed : answer? (.kitInstalled (by' 21) (some 17)) floor = some (.ok, .kit (some 17) none) ∧
    answer? (.kitInstalled (by' 21) (some 17)) (running (guard none)) = some (.busy, .nothing) := by decide
theorem test_temp_reached_soaks : answer? (.tempReached (by' 21) (-40))
    (State.heated floor .ramping none (some ⟨-40, 900⟩) 0) = some (.ok, .thermal .soaking 900) := by decide

/-- R80: the current lot gets THERMAL and drains. -/
theorem test_temp_lost_drains :
    lot7 (after (.tempLost (by' 21)) (State.heated (running (guard none)) .atTemp (some (-40)) (some ⟨-40, 900⟩) 0)) =
      some (.draining 0 plain .thermal, [.thermal]) := by decide
theorem test_handler_lock : answer? (.handlerLock (by' 6) 1) (running (guard none)) = some (.busy, .nothing) := by decide
theorem test_handler_unlock_first :
    answer? (.handlerUnlock (by' 1) 1) (floor.updHandler 0 (fun x => { x with lock := some 5 })) = some (.ok, .nothing) := by decide
theorem test_cell_status_unnamed : answer? (.cellStatus (by' 2) none none) floor = some (.badFormat, .nothing) := by decide
theorem test_tester_config_enable : answer? (.testerConfigEnable (by' 6) 2) floor = some (.ok, .testerSlots true none none) := by decide
theorem test_tester_config_disable : answer? (.testerConfigDisable (by' 6) 1) floor = some (.inUse, .nothing) := by decide
theorem test_tester_config_clear_active :
    let s := floor.updTester 0 (fun x => { x with active := some ⟨⟨40, 3⟩, 0x11, false⟩ })
    answer? (.testerConfigClearActive (by' 6) 1) s = some (.ok, .testerSlots true none none) := by decide
theorem test_tester_query : answer? (.testerQuery (by' 2) 1) (State.staging floor (some (load .loaded 0 1))) =
    some (.ok, .tester ⟨true, some 0, none, some (load .loaded 0 1)⟩ none (some .released)) := by decide
theorem test_stage_program : answer? (.stageProgram (by' 6) 1 41 1) floor = some (.ok, .deadline 480) := by decide
theorem test_program_loaded_signature :
    answer? (.programLoaded (by' 21) none 40 3 0x12) (State.staging floor (some (load .loading 300 1))) =
      some (.ok, .stagedState .fault) := by decide

/-- R101: the reservation that waits on the load is cancelled. -/
theorem test_stage_abort_cancels :
    answer? (.stageAbort (by' 21) none)
      (State.staging (floorWith (.preparing 7) [lotIn (.reserved wait1 0 plain)]) (some (load .loading 300 1))) =
      some (.ok, .aborted true) := by decide
theorem test_deviation_set : answer? (.deviationSet (by' 6) 5 1 3 4 2) floor = some (.ok, .deviationEntry 0) := by decide

/-- "A deviation running out of capacity", at its second selection: one pending of two remaining, then none left. -/
def deviation (remaining pending : Nat) : Deviation :=
  { product := 5, step := 1, fromRevision := 3, substitute := 4, remaining := remaining, pending := pending, hits := 0, owner := 5
    setTime := 0 }
theorem test_deviation_clear_in_use :
    answer? (.deviationClear (by' 6) 2) { floor with deviations := floor.deviations.set 1 (some (deviation 2 1)) } =
      some (.inUse, .nothing) := by decide
theorem test_deviation_query : answer? (.deviationQuery (by' 2) (some 9)) floor = some (.badFormat, .nothing) := by decide

/-! ### The Yield Guard, holds and shipment -/

/-- "The trip and the drain": four units in bin 3 take the yield to 916, below 920; the lot drains with YIELD_LOW. -/
theorem test_touchdown_trips :
    answer? (.touchdown (by' 21) lotId 1 [3, 3, 3, 3]) (running (guard (some 0))) =
      some (.ok, .touchdown 4 false 2 .draining none [.yieldLow] none) := by decide

/-- "A sequence of indices", and the sites of "A socket that fails": site 3 leaves the enable set. -/
theorem test_touchdown_figures :
    sequenceCheck (some 65534) 65535 = .accepted 0 ∧ sequenceCheck (some 65535) 65535 = .duplicate ∧
    sequenceCheck (some 65535) 2 = .accepted 2 ∧ sequenceCheck (some 2) 200 = .accepted 197 ∧
    sequenceCheck (some 200) 600 = .outOfSequence ∧ sequenceCheck (some 200) 458 = .outOfSequence ∧
    sequenceCheck (some 200) 456 = .accepted 255 ∧
    disparitySite? step1 0b1111 ((((Vector.replicate 8 ⟨0, 0⟩).set 0 ⟨60, 57⟩).set 1 ⟨60, 58⟩).set 2 ⟨60, 51⟩ |>.set 3 ⟨60, 56⟩) =
      some 2 ∧
    disparitySite? step1 0b1111 ((((Vector.replicate 8 ⟨0, 0⟩).set 0 ⟨60, 57⟩).set 1 ⟨60, 58⟩).set 2 ⟨60, 56⟩ |>.set 3 ⟨60, 56⟩) =
      none := by decide

/-- "A socket that fails": site 3 leaves the enable set, and SITE_DISABLED is marked for station 21. -/
theorem test_site_check_disables :
    let sites : Vector SiteCount 8 :=
      (((Vector.replicate 8 ⟨0, 0⟩).set 0 ⟨60, 57⟩).set 1 ⟨60, 58⟩).set 2 ⟨60, 51⟩ |>.set 3 ⟨60, 56⟩
    let c := (running { guard none with sites := sites }).checkTouchdown 0 7
    c.2 = some 2 ∧ c.1.state.handlers[(0 : HandlerId)].sites = 0b1011 ∧ marks c.1.state 21 = [.siteDisabled] := by decide

theorem test_site_enable : answer? (.siteEnable (by' 6) 1 5) floor = some (.badFormat, .nothing) ∧
    answer? (.siteEnable (by' 6) 1 4) floor = some (.ok, .siteEnabled 0b1111 true) := by decide
theorem test_yield_query_absent : answer? (.yieldQuery (by' 2) (some 1) .lot) floor = some (.empty, .nothing) := by decide
theorem test_lot_hold_drains : lot7 (after (.lotHold (by' 2) lotId) (running (guard none))) =
    some (.draining 0 plain .manual, [.manual]) := by decide

/-- "The trip and the drain": CONTINUE of YIELD_LOW sets the waiver flag and queues the lot with the next stamp. -/
theorem test_lot_dispose_continue :
    answer? (.lotDisposeContinue (by' 9) lotId 1) (floorWith .idle [heldLot .yieldLow]) =
      some (.ok, .disposed .queued [] true (some 118)) := by decide
theorem test_lot_dispose_rescreen :
    ((after (.lotDisposeRescreen (by' 6) lotId 1) (floorWith .idle [heldLot .yieldLow])).lot? 7).map (fun l => l.cur) =
      some { StepRecord.opened 500 with rescreens := 1 } := by decide
theorem test_lot_dispose_scrap :
    lot7 (after (.lotDisposeScrap (by' 9) lotId 1) (floorWith .idle [heldLot .yieldLow])) = some (.scrapped, []) := by decide
theorem test_drained :
    let l := { runningLot with state := .draining 0 plain .yieldLow, holds := [⟨.yieldLow, 0, none, 0⟩] }
    answer? (.drained (by' 21) lotId) (floorWith (.draining 7 none) [l]) = some (.ok, .drained .held 246 229 1) := by decide

/-- "Step 2, completion": the answer to station 9's QUALITY shows DOCK and ENGINEERING missing, since the waiver is set. -/
theorem test_lot_endorse :
    answer? (.lotEndorse (by' 9) lotId 3) (floorWith .idle [{ lotIn (.complete none) with waiver := true }]) =
      some (.ok, .endorsed .complete [.dock, .engineering] none) := by decide
theorem test_endorse_withdraw :
    answer? (.endorseWithdraw (by' 9) lotId) (floorWith .idle [{ lotIn (.complete (some 1)) with endorsements := [⟨8, .quality, 0⟩] }]) =
      some (.ok, .withdrawn [] true) := by decide

/-- A release record of the lot. -/
def record : ReleaseRecord := { slot := 7, lot := lotId, product := code, quantity := 452, time := 9, endorsers := [(8, .quality), (11, .dock)] }
theorem test_ship_collect :
    answer? (.shipCollect (by' 12) lotId) { floorWith .idle [lotIn .released] with releaseQueue := [record] } =
      some (.ok, .shipped record) := by decide
/-- The lot state codes of R175. -/
theorem test_lot_state_codes :
    ([.queued, .reserved, .running, .draining, .held, .complete, .released, .scrapped] : List LotStateName).map (·.code) =
      [0, 1, 2, 3, 4, 5, 6, 7] := by decide
theorem test_release_query_waiting :
    answer? (.releaseQuery (by' 2) (.waiting 0)) (floorWith .idle [lotIn (.complete (some 3))]) =
      some (.ok, .waitingList 1 [(7, 3, 0)]) ∧
    answer? (.releaseQuery (by' 2) (.waiting 1)) (floorWith .idle [lotIn (.complete (some 3))]) =
      some (.empty, .releaseLengths 0 1) := by decide
theorem test_release_query :
    answer? (.releaseQuery (by' 2) (.recordAt 0)) { floorWith .idle [lotIn .released] with releaseQueue := [record] } =
      some (.ok, .releaseRecord record 0) := by decide

/-! ### A state and operands that meet the hypotheses of each statement -/

/-- One lot stands in slot order. -/
theorem slots_of_one {s : State} {l : Lot} (h : s.lots = [l]) : s.SlotsInOrder := by simp [State.SlotsInOrder, h]

/-- A floor with the stations and the link of `floor` takes the requests that `floor` takes. -/
theorem takes_floor {s : State} {m : Msg} {k : Kind} {reads : List Byte → Bool} (hs : s.stations = floor.stations)
    (hl : s.link = floor.link) (hr : s.inReset = floor.inReset) (ht : floor.takes m k reads = true) : s.takes m k reads = true := by
  simpa [State.takes, State.delivers, State.rolesOf, hs, hl, hr] using ht

/-- The floor with the lot of the worked sequence RESERVED for H1, in a cell state, with T1's staged slot given. -/
def reservedFloor (cell : Cell) (g : Option Staged) : State := State.staging (floorWith cell [lotIn (.reserved wait1 0 plain)]) g

/-- The frame of TIME_SET in the receive buffer. -/
def timeSetFrame : Frame := { priority := false, sender := 0, kind := 5, tag := 0, payload := [0, 0, 0x0E, 0x10] }

theorem witness_LineReset : (running (guard none)).inReset = false ∧ (running (guard none)).SlotsInOrder ∧
    { running (guard none) with lineResets := 255 }.inReset = false := ⟨by decide, slots_of_one rfl, by decide⟩

theorem witness_InReset : { floor with inReset := true }.inReset = true ∧ (∀ a b, Instr.secondTick ≠ .powerOnReset a b) ∧
    (∀ a b, Instr.secondTick ≠ .resetRelease a b) := by
  refine ⟨by decide, ?_, ?_⟩ <;> simp

theorem witness_FrameRoundTrip : ([] : List Byte).length ≤ 48 ∧ (List.replicate 48 (0xFF : Byte)).length ≤ 48 ∧ (31 : Fin 32) ≠ 0 ∧
    (1 : Fin 32) ≠ 0 := by decide

set_option maxRecDepth 8000 in
theorem witness_FramesInAndResponsesOut :
    receive partStatusLevels = .good ⟨true, 0, 6, 0, []⟩ ∧ receive (false :: List.replicate 11 false) = .ignored ∧
    receive (partStatusLevels.dropLast ++ [true]) = .bad ∧ floor.inReset = false ∧
    { floor.link with rxBuffer := List.replicate 3 timeSetFrame }.rxBuffer.length < 4 ∧ floor.link.responses.length < 4 ∧
    4 ≤ { floor.link with rxBuffer := List.replicate 4 timeSetFrame }.rxBuffer.length ∧
    (after (.partStatus (by' 2)) floor).link.responses ≠ [] := by decide

theorem witness_LinkRefusal :
    let s (sender : StationId) (kind : Nat) : State :=
      { floor with link := { floor.link with rxBuffer := [⟨false, sender, kind, 3, []⟩] } }
    (s 9 6).stations[(9 : StationId)].enrolled = false ∧ (s 0 0).stations[(0 : StationId)].enrolled = true ∧
    (s 0 0).inReset = false ∧ (s 0 0).link.responses.length < 4 ∧ Kind.ofCode? 0 = none ∧ Kind.ofCode? 63 = none ∧
    Kind.ofCode? 8 = some .lotRegister ∧ Kind.lotRegister.roleCheck.admits (s 11 8).stations[(11 : StationId)].roles = false := by
  decide

theorem witness_RefusalsChangeNothing :
    (Instr.lotScan (by' 2) none).request? = some (.lotScan, by' 2) ∧
    answer? (.lotScan (by' 2) none) floor = some (.empty, .nothing) ∧
    after (.lotScan (by' 2) none) floor ≠ floor := by
  refine ⟨by decide, by decide, fun h => ?_⟩
  exact absurd (congrArg (fun s : State => s.link.responses.length) h) (by decide)

theorem witness_SecondTick : (floorWith .idle [lotIn (.queued wait1)]).inReset = false := by decide

theorem witness_QueueTimeExpiry :
    let w : Wait := { wait1 with left := some 0 }
    let s (x : LotState) : State := floorWith (.preparing 7) [lotIn x]
    (∀ x, (s x).inReset = false ∧ (s x).SlotsInOrder ∧ (s x).lot? 7 = some (lotIn x) ∧ (lotIn x).holds = []) ∧ w.left = some 0 ∧
    (lotIn (.queued w)).state = .queued w ∧ (lotIn (.reserved w 0 plain)).state = .reserved w 0 plain :=
  ⟨fun _ => ⟨rfl, slots_of_one rfl, rfl, rfl⟩, rfl, rfl, rfl⟩

theorem witness_ExpiriesOfHandlersAndLoads :
    let soaking := State.heated (floorWith (.preparing 7) []) .soaking (some (-40)) (some ⟨-40, 900⟩) 0
    let loading := State.staging floor (some (load .loading 0 1))
    let apart := loading.updTester 0 (fun x => { x with docked := none })
    soaking.inReset = false ∧ soaking.handlers[(0 : HandlerId)].thermal = .soaking ∧ soaking.handlers[(0 : HandlerId)].soakLeft = 0 ∧
    (running (guard none)).handlers[(0 : HandlerId)].cell = .running 7 none ∧
    (running (guard none)).handlers[(0 : HandlerId)].stalled = false ∧
    (running (guard none)).handlers[(0 : HandlerId)].stallLeft = 0 ∧
    loading.testers[(0 : TesterId)].staged = some (load .loading 0 1) ∧ loading.testers[(0 : TesterId)].docked = some 0 ∧
    loading.reservedOn 0 = none ∧ apart.testers[(0 : TesterId)].staged = some (load .loading 0 1) ∧
    apart.testers[(0 : TesterId)].docked = none ∧
    (reservedFloor (.preparing 7) (some (load .loading 0 1))).reservedOn 0 = some (7, ⟨40, 3⟩) ∧
    floor.lot? 7 = none ∧ floor.handlers[(0 : HandlerId)].thermal ≠ .soaking ∧
    (State.heated floor .soaking none none 1).handlers[(0 : HandlerId)].soakLeft ≠ 0 ∧
    floor.handlers[(0 : HandlerId)].cell.name ≠ .running ∧
    (State.staging floor (some (load .loading 1 1))).testers[(0 : TesterId)].staged = some (load .loading 1 1) := by decide

theorem witness_AfterALoadEnds :
    let s := reservedFloor (.preparing 7)
    let at' (g : Option Staged) : Bool := (s g).testers[(0 : TesterId)].atHand ⟨40, 3⟩
    (∀ g, (s g).testers[(0 : TesterId)].docked = some 0 ∧ (s g).reservedOn 0 = some (7, ⟨40, 3⟩) ∧
      (s g).testers[(0 : TesterId)].staged = g) ∧
    at' (some (load .loaded 0 1)) = true ∧ at' (some (load (.fault .timeout) 0 2)) = false ∧
    (load (.fault .timeout) 0 2).attempts < 3 ∧ 3 ≤ (load (.fault .timeout) 0 3).attempts ∧
    at' (some (load (.fault .timeout) 0 3)) = false ∧ at' none = false ∧ at' (some { load .loaded 0 1 with program := ⟨41, 1⟩ }) = false ∧
    floor.revision? ⟨40, 3⟩ = some ⟨⟨40, 3⟩, 0x11, 180, 0, 5, none⟩ ∧ floor.testers[(0 : TesterId)].docked = some 0 ∧
    floor.testers[(1 : TesterId)].docked = none ∧ floor.reservedOn 0 = none := by
  refine ⟨fun g => ⟨rfl, rfl, rfl⟩, by decide⟩

theorem witness_ReadyConditions :
    let s (cell : Cell) (x : Thermal) := State.heated (reservedFloor cell (some (load .loaded 0 1))) x (some (-40)) (some ⟨-40, 900⟩) 0
    let ready (s : State) : Prop := s.testers[(0 : TesterId)].atHand ⟨40, 3⟩ = true ∧ s.isReleased ⟨40, 3⟩ = true ∧
      s.handlers[(0 : HandlerId)].thermal = .atTemp ∧
      s.handlers[(0 : HandlerId)].setpoint = some (s.stepOf (lotIn (.reserved wait1 0 plain))).setpoint ∧
      s.handlers[(0 : HandlerId)].kit = some (s.stepOf (lotIn (.reserved wait1 0 plain))).kit
    (∀ cell x, (s cell x).lot? 7 = some (lotIn (.reserved wait1 0 plain)) ∧ (s cell x).handlers[(0 : HandlerId)].docked = some 0 ∧
      (s cell x).handlers[(0 : HandlerId)].cell = cell) ∧
    ready (s (.preparing 7) .atTemp) ∧ ¬ ready (s (.preparing 7) .soaking) ∧ ready (s (.ready 7) .atTemp) ∧
    ¬ ready (s (.ready 7) .ramping) ∧
    (∀ cell ∈ [Cell.preparing 7, .ready 7], ((s cell .atTemp).updHandler 0 (fun x => { x with docked := none })).handlers[(0 : HandlerId)].docked = none) ∧
    (∀ cell ∈ [Cell.idle, .offline, .running 3 (some 7), .draining 3 none], cell.name ≠ .preparing ∧ cell.name ≠ .ready) := by
  refine ⟨fun _ _ => ⟨rfl, rfl, rfl⟩, by decide⟩

theorem witness_TimeSet :
    let s : State := { floor with link := { floor.link with rxBuffer := [timeSetFrame] } }
    let short : State := { floor with link := { floor.link with rxBuffer := [{ timeSetFrame with payload := [0, 0, 0] }] } }
    let m : Msg := { sender := 0, tag := 0, fits := false }
    s.takes (by' 1) .timeSet (readsAs readTimeSet true 3600) = true ∧ s.inReset = false ∧
    ([0, 0, 0] : List Byte).length ≠ 4 ∧ ([0, 0, 0, 0, 0] : List Byte).length ≠ 4 ∧ timeSetFrame.payload.length = 4 ∧
    short.delivers m .timeSet (readsAs readTimeSet m.fits 0) = true ∧ short.stations[m.sender].enrolled = true ∧
    (short.rolesOf m.sender).has .supervisor = true := by decide

theorem witness_AttentionMarking :
    ([⟨.stop, 1⟩, ⟨.stalled, 1⟩] : List Mark).Pairwise (fun a b => a.kind.code < b.kind.code) ∧
    (⟨.stalled, 1⟩ : Mark).kind ≠ .siteDisabled ∧ (∀ x ∈ ([⟨.stop, 1⟩] : List Mark), x.kind ≠ .stalled) ∧
    marks (floor.markBound 0 .stop 1) 21 = [.stop] ∧ marks (floor.markBound 1 .stop 1) 21 = [] := by decide

theorem witness_Enrolment :
    floor.takes (by' 1) .stationEnroll anyPayload = true ∧ (30 : StationId) ≠ 0 ∧ (0b000100 : Byte) ≠ 0 ∧ (63 : Byte).toNat < 64 ∧
    (RoleSet.has ((0b000100 : Byte).setWidth 6) .cell = (some (1 : HandlerId)).isSome) ∧
    floor.boundElsewhere 20 (some 1) = false ∧ floor.rebindBusy 20 (some 1) = false ∧
    (RoleSet.has ((0b000010 : Byte).setWidth 6) .cell = (none : Option HandlerId).isSome) ∧
    floor.boundElsewhere 30 none = false ∧ floor.rebindBusy 30 none = false ∧
    floor.takes (by' 1) .stationRemove anyPayload = true ∧ floor.stations[(20 : StationId)].enrolled = true := by decide

theorem witness_AttentionReadAndMask :
    floor.takes (by' 2) .attentionRead (readsAs readEmpty true ()) = true ∧
    floor.takes (by' 2) .attentionMask (readsAs readAttentionMask true none) = true ∧
    floor.takes (by' 2) .attentionMask (readsAs readAttentionMask true (some 8191)) = true ∧ (8191 : BitVec 16).toNat < 8192 ∧
    floor.takes (by' 2) .attentionMask (readsAs readAttentionMask true (some 8192)) = true ∧ 8192 ≤ (8192 : BitVec 16).toNat := by
  decide

/-- Every slot of the lot table taken. -/
def fullTable : List Lot := (List.finRange 256).map (fun k => { lotIn .held with slot := k, id := [BitVec.ofNat 8 (33 + k.val % 94)] })

set_option maxRecDepth 8000 in
theorem witness_LotRegister :
    let s := floorWith .idle [{ lotIn .held with slot := 0, id := [0x41] }]
    (∀ q p, floor.takes (by' 2) .lotRegister (readsAs readLotRegister true (lotId, code, q, p)) = true ∧
      s.takes (by' 2) .lotRegister (readsAs readLotRegister true (lotId, code, q, p)) = true) ∧
    lotIdOk lotId = true ∧ lotIdOk (List.replicate 16 0x21) = true ∧ productCodeOk code = true ∧ 1 ≤ 1 ∧ 999999 ≤ 999999 ∧ 3 ≤ 3 ∧
    s.activeProduct? code = some 5 ∧ s.products[(5 : ProductIx)].active = some ⟨code, [step1, step2]⟩ ∧
    [step1, step2][0]? = some step1 ∧ (∀ l ∈ s.lots, l.id ≠ lotId) ∧ (∀ l ∈ s.lots, l.slot ≠ 1) ∧
    (∀ j : Slot, j < 1 → ∃ l ∈ s.lots, l.slot = j) ∧
    lotIdOk [] = false ∧ lotIdOk (List.replicate 17 0x21) = false ∧ floor.activeProduct? lotId = none ∧
    (floorWith .idle [lotIn .held]).lotNamed? lotId = some (lotIn .held) ∧ s.lotNamed? lotId = none := by
  refine ⟨fun _ _ => ⟨takes_floor rfl rfl rfl rfl, takes_floor rfl rfl rfl rfl⟩, by decide⟩

theorem witness_LotRegister_full : ∀ k : Slot, ∃ l ∈ (floorWith .idle fullTable).lots, l.slot = k :=
  fun k => ⟨{ lotIn .held with slot := k, id := [BitVec.ofNat 8 (33 + k.val % 94)] },
    List.mem_map.mpr ⟨k, List.mem_finRange k, rfl⟩, rfl⟩

theorem witness_FreeingRequests :
    let s := floorWith .idle [lotIn .scrapped]
    let q := floorWith .idle [lotIn (.queued wait1)]
    let gone : State := { floor with library := floor.library.set 0 (some ⟨⟨40, 3⟩, 0x11, 180, 0, 5, some ⟨3, 5⟩⟩) }
    let d : State := { floor with deviations := floor.deviations.set 1 (some (deviation 2 0)) }
    s.takes (by' 2) .lotPurge anyPayload = true ∧ s.lotNamed? lotId = some (lotIn .scrapped) ∧ (lotIn .scrapped).state = .scrapped ∧
    q.takes (by' 2) .lotPurge anyPayload = true ∧ q.lotNamed? lotId = some (lotIn (.queued wait1)) ∧
    (lotIn (.queued wait1)).past = [] ∧ (lotIn (.queued wait1)).cur.runs = [] ∧
    floor.takes (by' 6) .productRemove anyPayload = true ∧ floor.products[(5 : ProductIx)].state ≠ .free ∧ floor.lotCount 5 = 0 ∧
    floor.deviationCount 5 = 0 ∧ gone.takes (by' 6) .programRemove anyPayload = true ∧ programOk 40 3 = true ∧
    gone.libraryIndex? ⟨40, 3⟩ = some 0 ∧ gone.isReleased ⟨40, 3⟩ = false ∧ gone.activeHolders ⟨40, 3⟩ = 0 ∧
    gone.stagedHolders ⟨40, 3⟩ = 0 ∧ d.takes (by' 6) .deviationClear anyPayload = true ∧
    d.deviations[(1 : DevId)] = some (deviation 2 0) ∧ (deviation 2 0).pending = 0 := by decide

set_option maxRecDepth 8000 in
theorem witness_FillingRequests :
    floor.takes (by' 6) .programDefine anyPayload = true ∧ programOk 255 255 = true ∧ 1 ≤ 1 ∧ 1800 ≤ 1800 ∧
    (∀ j : LibIx, ∀ x ∈ floor.library[j], x.program ≠ ⟨255, 255⟩) ∧ floor.library[(2 : LibIx)] = none ∧
    (∀ j : LibIx, j < 2 → floor.library[j] ≠ none) ∧ floor.takes (by' 6) .deviationSet anyPayload = true ∧
    floor.products[(5 : ProductIx)].active = some ⟨code, [step1, step2]⟩ ∧ [step1, step2][2 - 1]? = some step2 ∧
    step2.program.revision = 1 ∧ within 1 255 255 = true ∧ floor.deviations[(0 : DevId)] = none ∧
    (∀ e : DevId, e < 0 → floor.deviations[e] ≠ none) := by decide

theorem witness_StepFieldsBroughtIntoRange :
    stepGivenOk given = true ∧ floor.takes (by' 6) .productDefine anyPayload = true ∧
    stepGivenOk { given with setpoint := 176 } = false ∧ stepGivenOk { given with setpoint := 175, window := 65535 } = true ∧
    answer? (.productDefine (by' 6) 6 [0x41] 1 1 given) floor = some (.badFormat, .nothing) := by decide

theorem witness_ProductDefine :
    let other : Text := [0x42, 0x51, 0x58, 0x32, 0x30, 0x54, 0x31, 0x42]
    let s : State := { floor with products := floor.products.set 6 ⟨none, some ⟨other, 3, [step1], 5⟩⟩ }
    floor.takes (by' 6) .productDefine anyPayload = true ∧ productCodeOk other = true ∧ stepGivenOk given = true ∧
    floor.lotCount 6 = 0 ∧ floor.deviationCount 6 = 0 ∧
    (∀ j : ProductIx, j ≠ 6 → floor.products[j].holdsCode other = false) ∧
    s.takes (by' 6) .productDefine anyPayload = true ∧ s.products[(6 : ProductIx)].draft = some ⟨other, 3, [step1], 5⟩ ∧
    (by' 6).sender = 5 ∧ (2 : Nat) = [step1].length + 1 ∧ (2 : Nat) < 3 ∧ floor.products[(6 : ProductIx)].active = none ∧
    floor.products[(5 : ProductIx)].active ≠ none ∧ floor.lotCount 5 = 0 ∧
    { floor with products := floor.products.set 6 ⟨none, some ⟨other, 2, [step1], 5⟩⟩ }.products[(6 : ProductIx)].draft =
      some ⟨other, 2, [step1], 5⟩ := by decide

/-- The floor with T1 running 40/3 and the lot RUNNING on H1: every condition of `Consistent` holds. -/
def runningActive : State := (running (guard none)).updTester 0 (fun x => { x with active := some ⟨⟨40, 3⟩, 0x11, false⟩ })

theorem lots_runningActive : runningActive.lots = [runningLot] := rfl

theorem cells_runningActive : ∀ h : HandlerId, runningActive.handlers[h].cell.reserved = none ∧
    (runningActive.handlers[h].cell = .running 7 none ∧ h = 0 ∨ runningActive.handlers[h].cell = .offline) := by decide

theorem consistent_runningActive : runningActive.Consistent where
  slots := slots_of_one rfl
  lotOnCell l hl := by
    rw [lots_runningActive, List.mem_singleton] at hl
    subst hl
    exact ⟨none, rfl⟩
  reservedOfCell h k hk := by rw [(cells_runningActive h).1] at hk; cases hk
  currentOfCell h := by
    rcases (cells_runningActive h).2 with ⟨hc, rfl⟩ | hc
    · refine ⟨fun k q hk => ?_, fun k q hk => ?_⟩
      · rw [hc] at hk
        obtain ⟨rfl, -⟩ := Cell.running.inj hk
        exact ⟨runningLot, List.mem_singleton.mpr rfl, rfl, plain, rfl⟩
      · rw [hc] at hk; cases hk
    · refine ⟨fun k q hk => ?_, fun k q hk => ?_⟩ <;> rw [hc] at hk <;> cases hk
  waiting h := absurd (by decide) h
  holds l hl hne := by
    rw [lots_runningActive, List.mem_singleton] at hl
    subst hl
    exact absurd rfl hne
  release := by
    refine ⟨by decide, by decide, fun r hr => (by cases hr), fun l hl hs => ?_⟩
    rw [lots_runningActive, List.mem_singleton] at hl
    subst hl
    cases hs

theorem witness_ProgramWithdraw :
    runningActive.takes (by' 6) .programWithdraw anyPayload = true ∧ runningActive.Consistent ∧ programOk 40 3 = true ∧
    runningActive.libraryIndex? ⟨40, 3⟩ = some 0 ∧ runningActive.library[(0 : LibIx)] = some ⟨⟨40, 3⟩, 0x11, 180, 0, 5, none⟩ ∧
    runningActive.testers[(0 : TesterId)].activeHolds ⟨40, 3⟩ = true ∧ runningActive.testers[(0 : TesterId)].docked = some 0 ∧
    runningActive.handlers[(0 : HandlerId)].cell.current = some 7 ∧ runningActive.lot? 7 = some runningLot ∧
    runningLot.runInProgress.any (fun r => r.program = ⟨40, 3⟩) = true :=
  ⟨by decide, consistent_runningActive, by decide⟩

/-- The lot with step 1 closed under a count hold: HELD, its step closed. -/
def closedLot (r : HoldReason) : Lot := { heldLot r with cur := { (heldLot r).cur with closeTime := some 9 } }

theorem witness_LotEnd :
    let s (l : Lot) := floorWith (.running 7 none) [l]
    let last : Lot := { runningLot with past := [runningLot.cur], cur := { runningLot.cur with quantityIn := 248 } }
    let short : Lot := { runningLot with cur := { runningLot.cur with quantityIn := 251 } }
    (∀ l, (s l).takes (by' 21) .lotEnd anyPayload = true ∧ (s l).SlotsInOrder ∧
      (s l).stations[(by' 21).sender].bound = some 0 ∧ (s l).handlers[(0 : HandlerId)].cell.current = some 7) ∧
    lotIdOk lotId = true ∧ (s runningLot).lotNamed? lotId = some runningLot ∧ (s last).lotNamed? lotId = some last ∧
    runningLot.hasHold .countShort = false ∧ ((s runningLot).stepOf runningLot).tolerance < 500 - 246 ∧
    ((s short).stepOf short).tolerance = 251 - 246 ∧ short.past.length + 1 < ((s short).routeOf short).length ∧
    ((s last).routeOf last).length ≤ last.past.length + 1 := by
  refine ⟨fun _ => ⟨takes_floor rfl rfl rfl (by decide), slots_of_one rfl, rfl, rfl⟩, by decide⟩

theorem witness_PlacingAReason :
    let s (x : LotState) := floorWith .idle [lotIn x]
    ([⟨.manual, 0, none, 0⟩, ⟨.runLimit, 0, none, 0⟩] : List HoldEntry).Pairwise (fun a b => a.reason.code < b.reason.code) ∧
    (∀ x ∈ ([⟨.manual, 0, none, 0⟩] : List HoldEntry), x.reason ≠ .runLimit) ∧ (Cell.running 7 none).name = .running ∧
    (∀ x, (s x).SlotsInOrder ∧ (s x).lot? 7 = some (lotIn x) ∧ (lotIn x).hasHold .manual = false) ∧
    (heldLot .manual).hasHold .manual = true ∧ (LotState.draining 0 plain .thermal).name = .draining ∧
    (lotIn (.complete (some 1))).state = .complete (some 1) ∧ (lotIn .released).state = .released := by
  refine ⟨by decide, by decide, by decide, fun _ => ⟨slots_of_one rfl, rfl, rfl⟩, by decide⟩

theorem witness_LotHold :
    let s := floorWith (.ready 7) [lotIn (.reserved wait1 0 plain)]
    s.takes (by' 2) .lotHold anyPayload = true ∧ s.takes (by' 21) .lotHold anyPayload = true ∧ lotIdOk lotId = true ∧
    s.lotNamed? lotId = some (lotIn (.reserved wait1 0 plain)) ∧
    (s.rolesOf (by' 2).sender).hasAny [.floor, .quality, .engineering] = true ∧
    (s.rolesOf (by' 21).sender).has .cell = true ∧ s.stations[(by' 21).sender].bound = some 0 ∧
    s.handlers[(0 : HandlerId)].cell.reserved = some 7 ∧ (floorWith .idle [lotIn .held]).handlers[(0 : HandlerId)].cell.reserved = none ∧
    (floorWith .idle [lotIn .held]).takes (by' 21) .lotHold anyPayload = true ∧ (lotIn .held).hasHold .manual = false ∧
    (heldLot .manual).hasHold .manual = true ∧ (lotIn .scrapped).state = .scrapped := by decide

theorem witness_Continue :
    let s (l : Lot) := floorWith .idle [l]
    let x (l : Lot) (r : HoldReason) : List HoldEntry := l.holds.filter (fun y => y.reason ≠ r)
    let two : Lot := { heldLot .yieldLow with holds := [⟨.manual, 0, some 1, 0⟩, ⟨.yieldLow, 0, none, 0⟩] }
    let fourth : Lot := { heldLot .yieldLow with cur := { runningLot.cur with runs := List.replicate 4 run1 } }
    let third : Lot := { heldLot .yieldLow with cur := { runningLot.cur with runs := List.replicate 3 run1 } }
    let last : Lot := { closedLot .countShort with past := [runningLot.cur] }
    (∀ l, (s l).takes (by' 9) .lotDispose anyPayload = true ∧ (s l).takes (by' 2) .lotDispose anyPayload = true ∧
      (s l).SlotsInOrder ∧ (s l).stations = floor.stations) ∧
    (floor.rolesOf (by' 9).sender).has .quality = true ∧ (floor.rolesOf (by' 2).sender).has .quality = false ∧
    lotIdOk lotId = true ∧ (s two).lotNamed? lotId = some two ∧ two.state = .held ∧
    two.holdOf? .manual = some ⟨.manual, 0, some 1, 0⟩ ∧ some (by' 2).sender = some 1 ∧ x two .manual ≠ [] ∧
    (heldLot .runLimit).holdOf? .runLimit = some ⟨.runLimit, 0, none, 0⟩ ∧
    x (heldLot .yieldLow) .yieldLow = [] ∧ fourth.cur.closeTime = none ∧ 4 ≤ fourth.cur.runs.length ∧ third.cur.runs.length < 4 ∧
    (closedLot .countShort).cur.closeTime ≠ none ∧ x (closedLot .countShort) .countShort = [] ∧
    (closedLot .countShort).past.length + 1 < ((s (closedLot .countShort)).routeOf (closedLot .countShort)).length ∧
    ((s last).routeOf last).length ≤ last.past.length + 1 := by
  refine ⟨fun _ => ⟨takes_floor rfl rfl rfl (by decide), takes_floor rfl rfl rfl (by decide), slots_of_one rfl, rfl⟩, by decide⟩

theorem witness_RescreenAndScrap :
    let s (l : Lot) := floorWith .idle [l]
    let spent : Lot := { heldLot .yieldLow with cur := { runningLot.cur with rescreens := 3 } }
    let twice : Lot := { heldLot .yieldLow with cur := { runningLot.cur with rescreens := 2 } }
    (∀ l, (s l).takes (by' 9) .lotDispose anyPayload = true ∧ (s l).takes (by' 2) .lotDispose anyPayload = true ∧
      (s l).SlotsInOrder ∧ (s l).stations = floor.stations) ∧
    (floor.rolesOf (by' 9).sender).has .quality = true ∧ (floor.rolesOf (by' 2).sender).has .quality = false ∧
    (floor.rolesOf (by' 9).sender).hasAny [.quality, .engineering] = true ∧
    (floor.rolesOf (by' 2).sender).hasAny [.quality, .engineering] = false ∧
    lotIdOk lotId = true ∧ (s twice).lotNamed? lotId = some twice ∧ twice.state = .held ∧
    twice.holdOf? .yieldLow = some ⟨.yieldLow, 0, none, 0⟩ ∧ twice.cur.closeTime = none ∧ twice.cur.rescreens < 3 ∧
    ¬ spent.cur.rescreens < 3 ∧ (closedLot .countShort).cur.closeTime ≠ none := by
  refine ⟨fun _ => ⟨takes_floor rfl rfl rfl (by decide), takes_floor rfl rfl rfl (by decide), slots_of_one rfl, rfl⟩, by decide⟩

theorem witness_Drained :
    let l : Lot := { runningLot with state := .draining 0 plain .manual, holds := [⟨.manual, 0, none, 0⟩] }
    let s (l : Lot) := floorWith (.draining 7 (some 3)) [l]
    (∀ l, (s l).takes (by' 21) .drained anyPayload = true ∧ (s l).SlotsInOrder ∧ (s l).stations[(by' 21).sender].bound = some 0 ∧
      (s l).handlers[(0 : HandlerId)].cell.current = some 7 ∧ (s l).handlers[(0 : HandlerId)].cell.reserved = some 3) ∧
    lotIdOk lotId = true ∧ (s l).lotNamed? lotId = some l ∧ l.state.name = .draining ∧
    (running (guard none)).takes (by' 21) .drained anyPayload = true ∧ (running (guard none)).lotNamed? lotId = some runningLot ∧
    runningLot.state.name ≠ .draining ∧ (running (guard none)).handlers[(0 : HandlerId)].cell.reserved = none := by
  refine ⟨fun _ => ⟨takes_floor rfl rfl rfl (by decide), slots_of_one rfl, rfl, rfl, rfl⟩, by decide⟩

theorem witness_Selection :
    let s := floorWith .idle [lotIn (.queued wait1)]
    let late := floorWith .idle [lotIn (.queued { wait1 with age := 86400 })]
    let deviated : State := { s with deviations := floor.deviations.set 1 (some (deviation 2 1)) }
    s.select 0 = some (lotIn (.queued wait1), .byScore 1340 8090) ∧
    late.select 0 = some (lotIn (.queued { wait1 with age := 86400 }), .overdue) ∧ floor.select 0 = none ∧
    (∀ d : DevId, s.deviations[d] = none) ∧ deviated.deviations[(1 : DevId)] = some (deviation 2 1) ∧
    (deviation 2 1).fromRevision = step1.program.revision ∧ (∀ j : DevId, j < 1 → deviated.deviations[j] = none) := by decide

theorem witness_Score :
    let s (g : Nat) : State := { floorWith .idle [lotIn (.queued wait1)] with settings := ⟨7200, g, 0⟩ }
    (lotIn (.queued wait1)).priority ≤ 3 ∧ (s 15).settings.agingGain ≤ 15 ∧ (s 15).settings.kitTerm ≤ 7200 ∧
    (s 15).handlers[(0 : HandlerId)].rampRate ≤ 60 ∧ (s 15).handlers[(0 : HandlerId)].setpoint = none ∧
    (-55 : Int) ≤ ((s 15).stepOf (lotIn (.queued wait1))).setpoint ∧ ((s 15).stepOf (lotIn (.queued wait1))).setpoint ≤ 175 ∧
    ((s 15).stepOf (lotIn (.queued wait1))).soak ≤ 3600 ∧
    (s 15).estimateOf ((s 15).resolve (lotIn (.queued wait1))).program ≤ 1800 ∧ (s 0).settings.agingGain = 0 ∧
    (s 8).settings.agingGain = 8 := by decide

theorem witness_CallWork :
    let s := floorWith .idle [lotIn (.queued wait1)]
    let locked := s.updHandler 0 (fun x => { x with lock := some 5 })
    let undocked := s.updHandler 0 (fun x => { x with docked := none })
    s.takes (by' 21) .callWork anyPayload = true ∧ s.stations[(by' 21).sender].bound = some 0 ∧
    locked.takes (by' 21) .callWork anyPayload = true ∧ locked.handlers[(0 : HandlerId)].lock ≠ none ∧
    s.handlers[(0 : HandlerId)].lock = none ∧ s.handlers[(0 : HandlerId)].cell = .idle ∧ s.handlers[(0 : HandlerId)].docked ≠ none ∧
    undocked.takes (by' 21) .callWork anyPayload = true ∧ undocked.handlers[(0 : HandlerId)].docked = none ∧
    floor.takes (by' 21) .callWork anyPayload = true ∧ floor.select 0 = none ∧
    s.select 0 = some (lotIn (.queued wait1), .byScore 1340 8090) := by decide

theorem witness_ReservationMadeAndCancelled :
    let q (cell : Cell) := floorWith cell [lotIn (.queued wait1)]
    let r (cell : Cell) := floorWith cell [lotIn (.reserved wait1 0 plain)]
    (∀ cell, (q cell).SlotsInOrder ∧ (q cell).lot? 7 = some (lotIn (.queued wait1)) ∧
      (q cell).handlers[(0 : HandlerId)].docked = some 0 ∧ (q cell).handlers[(0 : HandlerId)].cell = cell ∧ (r cell).SlotsInOrder ∧
      (r cell).lot? 7 = some (lotIn (.reserved wait1 0 plain)) ∧ (r cell).handlers[(0 : HandlerId)].cell = cell) ∧
    (Cell.preparing 7 = .preparing 7 ∨ Cell.preparing 7 = .ready 7) := by
  refine ⟨fun _ => ⟨slots_of_one rfl, rfl, rfl, rfl, slots_of_one rfl, rfl, rfl⟩, by decide⟩

theorem witness_SetupAndStaging :
    let s (x : Option Int) (t : Option Target) := State.heated (floorWith (.preparing 7) [lotIn (.reserved wait1 0 plain)]) .atTemp x t 0
    let u (g : Option Staged) := State.staging floor g
    (∀ x t, (s x t).lot? 7 = some (lotIn (.reserved wait1 0 plain)) ∧ (s x t).handlers[(0 : HandlerId)].setpoint = x ∧
      (s x t).handlers[(0 : HandlerId)].target = t ∧ (s x t).stepOf (lotIn (.reserved wait1 0 plain)) = step1) ∧
    some (25 : Int) ≠ some step1.setpoint ∧ (⟨25, 0⟩ : Target).setpoint ≠ step1.setpoint ∧ some (-40 : Int) = some step1.setpoint ∧
    (u (some (load .loaded 0 1))).testers[(0 : TesterId)].atHand ⟨40, 3⟩ = true ∧
    (u none).testers[(0 : TesterId)].atHand ⟨40, 3⟩ = false ∧
    (u (some (load .loading 9 1))).testers[(0 : TesterId)].atHand ⟨40, 3⟩ = false ∧
    (u (some (load .loading 9 1))).testers[(0 : TesterId)].staged = some (load .loading 9 1) ∧
    (u (some (load .loading 9 1))).testers[(0 : TesterId)].atHand ⟨41, 1⟩ = false ∧
    (u (some (load (.fault .timeout) 0 1))).testers[(0 : TesterId)].atHand ⟨40, 3⟩ = false := by
  refine ⟨fun _ _ => ⟨rfl, rfl, rfl, rfl⟩, by decide⟩

theorem witness_LotBegin :
    let s (cell : Cell) (l : Lot) := floorWith cell [l]
    (∀ cell l, (s cell l).takes (by' 21) .lotBegin anyPayload = true ∧ (s cell l).SlotsInOrder ∧
      (s cell l).stations[(by' 21).sender].bound = some 0 ∧ (s cell l).handlers[(0 : HandlerId)].cell = cell ∧
      (s cell l).handlers[(0 : HandlerId)].docked = some 0 ∧ (s cell l).handlers[(0 : HandlerId)].config = some config1) ∧
    lotIdOk lotId = true ∧ (s .idle (heldLot .manual)).lotNamed? lotId = some (heldLot .manual) ∧ (heldLot .manual).state = .held ∧
    (s (.ready 7) (lotIn (.reserved wait1 0 plain))).lotNamed? lotId = some (lotIn (.reserved wait1 0 plain)) ∧
    (lotIn (.reserved wait1 0 plain)).state ≠ .held ∧ (Cell.preparing 7).name ≠ .ready ∧ (8 : Slot) ≠ 7 := by
  refine ⟨fun _ _ => ⟨takes_floor rfl rfl rfl (by decide), slots_of_one rfl, rfl, rfl, rfl, rfl⟩, by decide⟩

theorem witness_SettingsRequests :
    let s (x : LotState) := floorWith .idle [lotIn x]
    (∀ x, (s x).takes (by' 2) .lotPriority anyPayload = true ∧ (s x).SlotsInOrder ∧ (s x).lotNamed? lotId = some (lotIn x)) ∧
    lotIdOk lotId = true ∧ (lotIn .held).state.name ≠ .queued ∧ (lotIn .held).state.name ≠ .reserved ∧
    floor.takes (by' 1) .dispatchConfig anyPayload = true ∧ floor.takes (by' 6) .siteEnable anyPayload = true ∧
    (floor.rolesOf (by' 6).sender).has .engineering = true ∧ floor.handlers[(0 : HandlerId)].lock = none ∧
    floor.handlers[(0 : HandlerId)].config = some config1 ∧ number (3 : SiteIx) ≤ config1.siteCount ∧
    65535 ≤ 65535 ∧ 65535 < 65536 ∧ 255 ≤ 255 ∧ 255 < 256 := by
  refine ⟨fun _ => ⟨takes_floor rfl rfl rfl (by decide), slots_of_one rfl, rfl⟩, by decide⟩

theorem witness_HandlerSetup :
    let s (cell : Cell) := floorWith cell [lotIn (.reserved wait1 0 plain)]
    (∀ cell, (s cell).takes (by' 6) .handlerConfig anyPayload = true ∧ (s cell).takes (by' 21) .handlerOnline anyPayload = true ∧
      (s cell).takes (by' 21) .handlerOffline anyPayload = true ∧ (s cell).takes (by' 2) .handlerOffline anyPayload = true ∧
      (s cell).stations[(by' 21).sender].bound = some 0 ∧ (s cell).handlers[(0 : HandlerId)].config = some config1 ∧
      (s cell).handlers[(0 : HandlerId)].cell = cell ∧ (s cell).handlers[(0 : HandlerId)].lock = none ∧
      (s cell).stations = floor.stations) ∧
    (floor.rolesOf (by' 6).sender).hasAny [.supervisor, .engineering] = true ∧
    (floor.rolesOf (by' 2).sender).hasAny [.floor, .supervisor] = true ∧ (floor.rolesOf (by' 21).sender).has .cell = true ∧
    1 ≤ 8 ∧ (0 : Byte).toNat < 8 ∧ (7 : Byte).toNat < 8 ∧ 8 ≤ (8 : Byte).toNat ∧ 8 < 9 ∧ 255 < 256 ∧ (Cell.running 7 none).name = .running := by
  refine ⟨fun _ => ⟨takes_floor rfl rfl rfl (by decide), takes_floor rfl rfl rfl (by decide), takes_floor rfl rfl rfl (by decide),
    takes_floor rfl rfl rfl (by decide), rfl, rfl, rfl, rfl, rfl⟩, by decide⟩

theorem witness_DockAndLock :
    let bare := (floor.updHandler 0 (fun x => { x with docked := none })).updTester 0 (fun x => { x with docked := none })
    let lockedBy (j : StationId) := floor.updHandler 0 (fun x => { x with lock := some j })
    (∀ s ∈ [bare, floor, running (guard none), lockedBy 8, lockedBy 5],
      s.takes (by' 6) .dock anyPayload = true ∧ s.takes (by' 6) .undock anyPayload = true ∧
      s.takes (by' 6) .handlerLock anyPayload = true ∧ s.takes (by' 6) .handlerUnlock anyPayload = true ∧
      (s.rolesOf (by' 6).sender).hasAny [.engineering, .supervisor] = true ∧ s.handlers[(0 : HandlerId)].config ≠ none ∧
      s.testers[(0 : TesterId)].configured = true) ∧
    bare.handlers[(0 : HandlerId)].lock = none ∧ bare.handlers[(0 : HandlerId)].cell = .idle ∧
    bare.handlers[(0 : HandlerId)].docked = none ∧ bare.testers[(0 : TesterId)].docked = none ∧
    floor.handlers[(0 : HandlerId)].docked = some 0 ∧ floor.testers[(0 : TesterId)].docked = some 0 ∧
    (running (guard none)).handlers[(0 : HandlerId)].cell ≠ .offline ∧ (running (guard none)).handlers[(0 : HandlerId)].cell ≠ .idle ∧
    (lockedBy 8).handlers[(0 : HandlerId)].lock = some 8 ∧ (8 : StationId) ≠ (by' 6).sender ∧
    (lockedBy 5).handlers[(0 : HandlerId)].lock = some (by' 6).sender ∧
    (lockedBy 8).takes (by' 1) .handlerUnlock anyPayload = true ∧ (by' 1).sender = 0 ∧ (by' 6).sender ≠ 0 := by decide

theorem witness_KitAndTemperature :
    let s (x : Thermal) (soak : Nat) := State.heated floor x none (some ⟨-40, soak⟩) 0
    (∀ x soak, (s x soak).takes (by' 21) .tempReached anyPayload = true ∧ (s x soak).takes (by' 21) .tempLost anyPayload = true ∧
      (s x soak).takes (by' 21) .kitInstalled anyPayload = true ∧ (s x soak).stations[(by' 21).sender].bound = some 0 ∧
      (s x soak).handlers[(0 : HandlerId)].target = some ⟨-40, soak⟩ ∧ (s x soak).handlers[(0 : HandlerId)].cell = .idle ∧
      (s x soak).handlers[(0 : HandlerId)].thermal = x) ∧
    (∀ n, some 63 = some n → n ≤ 63) ∧ (-55 : Int) ≤ -55 ∧ (175 : Int) ≤ 175 ∧ (175 : Int) ≠ (⟨-40, 900⟩ : Target).setpoint ∧
    (-40 : Int) = (⟨-40, 900⟩ : Target).setpoint ∧ Cell.idle.current = none ∧
    (State.heated (running (guard none)) .atTemp none none 0).handlers[(0 : HandlerId)].cell.current = some 7 ∧
    (State.heated (running (guard none)) .atTemp none none 0).takes (by' 21) .tempLost anyPayload = true := by
  refine ⟨fun _ _ => ⟨takes_floor rfl rfl rfl (by decide), takes_floor rfl rfl rfl (by decide), takes_floor rfl rfl rfl (by decide),
    rfl, rfl, rfl, rfl⟩, fun n h => by cases h; decide, by decide⟩

theorem witness_TesterConfig :
    let bare (g : Option Staged) := floor.updTester 0 (fun x => { x with docked := none, staged := g })
    (∀ s ∈ [floor, bare none, bare (some (load .loading 9 1)), running (guard none)],
      s.takes (by' 6) .testerConfig anyPayload = true ∧ (s.rolesOf (by' 6).sender).hasAny [.supervisor, .engineering] = true ∧
      s.testers[(0 : TesterId)].configured = true ∧
      (s.testers[(0 : TesterId)].docked.bind (fun h : HandlerId => s.handlers[h].lock)) = none) ∧
    floor.testers[(0 : TesterId)].docked ≠ none ∧ (bare none).testers[(0 : TesterId)].docked = none ∧
    floor.testers[(1 : TesterId)].configured = false ∧ floor.testers[(1 : TesterId)].docked = none ∧
    (bare (some (load .loading 9 1))).testers[(0 : TesterId)].staged = some (load .loading 9 1) ∧
    (running (guard none)).testers[(0 : TesterId)].docked = some 0 ∧ (running (guard none)).handlers[(0 : HandlerId)].cell ≠ .idle ∧
    floor.handlers[(0 : HandlerId)].cell = .idle := by decide

theorem witness_Loads :
    let s (g : Option Staged) := State.staging floor g
    let r := reservedFloor (.preparing 7) (some (load .loading 9 1))
    floor.takes (by' 6) .stageProgram anyPayload = true ∧ programOk 40 3 = true ∧ floor.testers[(0 : TesterId)].configured = true ∧
    floor.revision? ⟨40, 3⟩ = some ⟨⟨40, 3⟩, 0x11, 180, 0, 5, none⟩ ∧ floor.testers[(0 : TesterId)].docked = some 0 ∧
    floor.handlers[(0 : HandlerId)].cell.reserved = none ∧ floor.testers[(0 : TesterId)].staged = none ∧
    floor.testers[(0 : TesterId)].atHand ⟨40, 3⟩ = false ∧
    (∀ x ∈ [s (some (load .loading 9 1)), s (some (load .loaded 0 1)), r],
      x.takes (by' 6) .programLoaded anyPayload = true ∧ x.takes (by' 21) .programLoaded anyPayload = true ∧
      x.takes (by' 6) .stageAbort anyPayload = true ∧ x.takes (by' 21) .stageAbort anyPayload = true ∧
      (x.rolesOf (by' 6).sender).has .engineering = true ∧ (x.rolesOf (by' 21).sender).has .cell = true ∧
      x.stations[(by' 21).sender].bound = some 0 ∧ x.handlers[(0 : HandlerId)].docked = some 0) ∧
    (s (some (load .loading 9 1))).testers[(0 : TesterId)].staged = some (load .loading 9 1) ∧
    (s (some (load .loading 9 1))).reservationNeeds 0 ⟨40, 3⟩ = none ∧ r.reservationNeeds 0 ⟨40, 3⟩ = some 7 ∧
    r.testers[(0 : TesterId)].docked = some 0 ∧ r.reservedOn 0 = some (7, ⟨40, 3⟩) := by decide

theorem witness_SequenceCheck :
    let s := running (guard (some 65535))
    s.takes (by' 21) .touchdown (readsAs readTouchdown true (lotId, 65535, [16, 0, 1, 2])) = true ∧ lotIdOk lotId = true ∧
    (∀ b ∈ [16, 0, 1, 2], b ≤ 16) ∧ s.lotNamed? lotId = some runningLot ∧ s.stations[(by' 21).sender].bound = some 0 ∧
    s.handlers[(0 : HandlerId)].cell.current = some 7 ∧ s.handlers[(0 : HandlerId)].config = some config1 ∧
    [16, 0, 1, 2].length = config1.siteCount ∧ s.guards[(0 : HandlerId)] = some (guard (some 65535)) ∧
    ((65535 : Int) - 65535) % 65536 = 0 ∧ ((0 : Int) - 65535) % 65536 = 1 ∧ ((1 : Int) - 65535) % 65536 = 2 ∧
    ((255 : Int) - 65535) % 65536 = 256 ∧ ((256 : Int) - 65535) % 65536 = 257 := by decide

theorem witness_Touchdown :
    let s := running (guard none)
    let ahead := s.updHandler 0 (fun x => { x with config := some { config1 with lookahead := 254 } })
    s.takes (by' 21) .touchdown (readsAs readTouchdown true (lotId, 0, [16, 0, 1, 2])) = true ∧
    sequenceCheck (guard none).lastIndex 0 = .accepted 0 ∧ saturates runningLot.cur (unitsOf [16, 0, 1, 2]) = false ∧
    unitsOf [16, 0, 1, 2] ≠ [] ∧ unitsOf [0, 0, 0, 0] = [] ∧
    saturates { runningLot.cur with tested := 16777215 } (unitsOf [16, 0, 1, 2]) = true ∧
    ahead.lot? 7 = some runningLot ∧ ahead.handlers[(0 : HandlerId)].config = some { config1 with lookahead := 254 } ∧
    ahead.handlers[(0 : HandlerId)].cell = .running 7 none ∧ runningLot.cur.quantityIn ≤ runningLot.cur.tested + 254 ∧
    ¬ runningLot.cur.quantityIn ≤ runningLot.cur.tested + 253 ∧ config1.lookahead = 0 ∧ ahead.select 0 = none ∧
    (floorWith (.running 7 none) [runningLot, { lotIn (.queued wait1) with slot := 8, id := [0x42] }]).select 0 ≠ none ∧
    (Cell.running 7 (some 8)).reserved ≠ none ∧ (Cell.draining 7 none).name ≠ .running ∧
    s.lot? 7 = some runningLot ∧ s.guards[(0 : HandlerId)] = some (guard none) ∧
    s.handlers[(0 : HandlerId)].config = some config1 ∧ disparitySite? step1 0b1111 (guard none).sites = none := by decide

theorem witness_TouchdownCounts :
    (running (guard none)).SlotsInOrder ∧ (running (guard none)).lot? 7 = some runningLot ∧ [16, 0, 1, 2].length ≤ 8 ∧
    16777215 < { runningLot.cur with tested := 16777213 }.tested + ([16, 0, 1, 2].filter (fun b => b ≠ 0)).length ∧
    ¬ 16777215 < { runningLot.cur with tested := 16777212 }.tested + ([16, 0, 1, 2].filter (fun b => b ≠ 0)).length :=
  ⟨slots_of_one rfl, by decide⟩

theorem witness_ChecksTrip :
    let sites : Vector SiteCount 8 :=
      (((Vector.replicate 8 ⟨0, 0⟩).set 0 ⟨60, 57⟩).set 1 ⟨60, 58⟩).set 2 ⟨60, 51⟩ |>.set 3 ⟨60, 56⟩
    disparitySite? step1 0b1111 sites = some 2 ∧ siteGap? 200 0b1111 sites 2 = some 100 ∧ siteGap? 200 0b0011 sites 2 = none ∧
    floor.handlers[(0 : HandlerId)].config = some { config1 with sitesEnabled := 0b1111 } ∧
    disparitySite? { step1 with disparity := 100 } 0b1111 sites = none := by
  decide

theorem witness_ChecksPlaceInOrder :
    let l : Lot := { runningLot with cur := { runningLot.cur with quantityIn := 249, tested := 250, fails := ⟨9, 12, 0, 0⟩ } }
    let s := floorWith (.running 7 none) [l]
    let c := holdChecks step1 7 l.cur [] s
    s.SlotsInOrder ∧ s.lot? 7 = some l ∧ l.state ≠ .scrapped ∧ l.state = .running 0 plain ∧
    c.placed = [.countExcess, .yieldLow, .binSpike] ∧ countExceeds runningLot.cur = false ∧
    cumulativeRearms step1 { runningLot.cur with good := 232, armed := false } = true := by
  refine ⟨slots_of_one rfl, by decide⟩

theorem witness_Endorse :
    let s (l : Lot) (n : Nat) : State := { floorWith .idle [l] with releaseQueue := List.replicate n record }
    let one : Lot := { lotIn (.complete none) with endorsements := [⟨8, .quality, 0⟩] }
    let engineered : Lot := { one with waiver := true }
    (∀ l n, (s l n).takes (by' 12) .lotEndorse anyPayload = true ∧ (s l n).takes (by' 6) .lotEndorse anyPayload = true ∧
      (s l n).SlotsInOrder ∧ (s l n).products[(5 : ProductIx)].active = some ⟨code, [step1, step2]⟩ ∧
      (s l n).stations = floor.stations) ∧
    (floor.rolesOf (by' 12).sender).has .dock = true ∧ (floor.rolesOf (by' 12).sender).has .quality = false ∧
    (floor.rolesOf (by' 6).sender).has .engineering = true ∧
    lotIdOk lotId = true ∧ (s one 31).lotNamed? lotId = some one ∧ one.state.name = .complete ∧
    (∀ e ∈ one.endorsements, e.station ≠ (by' 12).sender ∧ e.role ≠ .dock) ∧ (s one 31).releaseQueue.length < 32 ∧
    32 ≤ (s one 32).releaseQueue.length ∧ engineered.waiver = true ∧ (lotIn .held).state.name ≠ .complete ∧
    ¬ (∀ e ∈ ([⟨11, .dock, 0⟩] : List Endorsement), e.station ≠ (by' 12).sender ∧ e.role ≠ .dock) := by
  refine ⟨fun _ _ => ⟨takes_floor rfl rfl rfl (by decide), takes_floor rfl rfl rfl (by decide), slots_of_one rfl, rfl, rfl⟩, by decide⟩

theorem witness_WithdrawAndCollect :
    let one : Lot := { lotIn (.complete (some 1)) with endorsements := [⟨8, .quality, 0⟩] }
    let s := floorWith .idle [one]
    let r : State := { floorWith .idle [lotIn .released] with releaseQueue := [record] }
    let waits : Lot := { one with slot := 8, id := [0x42] }
    let w : State := { floorWith .idle [lotIn .released, waits] with releaseQueue := [record] }
    s.SlotsInOrder ∧ r.SlotsInOrder ∧ w.SlotsInOrder ∧ s.takes (by' 9) .endorseWithdraw anyPayload = true ∧ lotIdOk lotId = true ∧
    s.takes (by' 12) .endorseWithdraw anyPayload = true ∧ s.lotNamed? lotId = some one ∧
    (∃ e ∈ one.endorsements, e.station = (by' 9).sender) ∧ (∀ e ∈ one.endorsements, e.station ≠ (by' 12).sender) ∧
    (lotIn .held).state.name ≠ .complete ∧ r.takes (by' 12) .shipCollect anyPayload = true ∧
    r.lotNamed? lotId = some (lotIn .released) ∧ r.releaseQueue.find? (fun x => x.slot = 7) = some record ∧ r.waitingList = [] ∧
    w.takes (by' 12) .shipCollect anyPayload = true ∧ w.lotNamed? lotId = some (lotIn .released) ∧
    w.releaseQueue.find? (fun x => x.slot = 7) = some record ∧ w.waitingList = [waits] ∧
    w.products[(5 : ProductIx)].active = some ⟨code, [step1, step2]⟩ ∧ one.state ≠ .released := by
  refine ⟨slots_of_one rfl, slots_of_one rfl, ?_, by decide⟩
  simp only [State.SlotsInOrder]
  decide

theorem witness_LotQueries :
    let s := floorWith .idle [lotIn (.queued wait1)]
    let r : State := { floorWith .idle [lotIn .released] with releaseQueue := [record] }
    let w := floorWith .idle [lotIn (.complete (some 1))]
    s.SlotsInOrder ∧ s.takes (by' 2) .lotQuery anyPayload = true ∧ lotIdOk lotId = true ∧
    s.lotNamed? lotId = some (lotIn (.queued wait1)) ∧
    (runningLot.past ++ [runningLot.cur])[1 - 1]? = some runningLot.cur ∧ runningLot.cur.runs[1 - 1]? = some run1 ∧
    s.takes (by' 2) .lotScan anyPayload = true ∧ (∀ n, some 255 = some n → n ≤ 255) ∧ ¬ ((7 : Slot).val ≤ 6) ∧ (7 : Slot).val ≤ 7 ∧
    s.takes (by' 2) .queueQuery anyPayload = true ∧ 0 < (s.queue .cold).length ∧ (s.queue .cold).length ≤ 1 ∧
    r.takes (by' 2) .releaseQuery anyPayload = true ∧ 0 < r.releaseQueue.length ∧ r.releaseQueue.length ≤ 1 ∧
    w.takes (by' 2) .releaseQuery anyPayload = true ∧ 0 < w.waitingList.length ∧ w.waitingList.length ≤ 1 ∧
    r.releaseQueue[0]? = some record ∧ r.lotNamed? lotId = some (lotIn .released) ∧ record.slot = 7 := by
  refine ⟨slots_of_one rfl, rfl, rfl, rfl, rfl, rfl, rfl, ?_, by decide⟩
  intro n h
  cases h
  decide

theorem witness_TableQueries :
    let s := running (guard none)
    let wide := s.updHandler 0 (fun x => { x with config := some { config1 with siteCount := 5 } })
    s.takes (by' 2) .productQuery anyPayload = true ∧ s.products[(5 : ProductIx)].active = some ⟨code, [step1, step2]⟩ ∧
    [step1, step2][2 - 1]? = some step2 ∧ s.takes (by' 2) .programQuery anyPayload = true ∧ programOk 40 3 = true ∧
    s.libraryIndex? ⟨40, 3⟩ = some 0 ∧ s.library[(1 : LibIx)] = some ⟨⟨41, 1⟩, 0x5A31C0E7, 240, 0, 5, none⟩ ∧
    s.takes (by' 2) .testerQuery anyPayload = true ∧ s.takes (by' 2) .deviationQuery anyPayload = true ∧
    s.takes (by' 2) .partStatus (readsAs readEmpty true ()) = true ∧ s.takes (by' 2) .cellStatus anyPayload = true ∧
    s.takes (by' 21) .cellStatus anyPayload = true ∧ (s.rolesOf (by' 21).sender).has .cell = true ∧
    s.stations[(by' 21).sender].bound = some 0 ∧ s.takes (by' 2) .yieldQuery anyPayload = true ∧
    s.guards[(0 : HandlerId)] = some (guard none) ∧ s.lot? (guard none).lot = some runningLot ∧
    s.handlers[(0 : HandlerId)].config = some config1 ∧ config1.siteCount < 5 ∧ floor.guards[(0 : HandlerId)] = none ∧
    wide.handlers[(0 : HandlerId)].config = some { config1 with siteCount := 5 } := by decide

theorem witness_TablesChangeOnlyByTheirCommands :
    let one : Lot := { lotIn (.complete none) with endorsements := [⟨8, .quality, 0⟩] }
    let endorsed := floorWith .idle [one]
    let fullQueue : State := { endorsed with releaseQueue := List.replicate 32 record }
    (after (.productRemove (by' 6) (.index 5)) floor).products[(5 : ProductIx)].state ≠ floor.products[(5 : ProductIx)].state ∧
    (after (.programDefine (by' 6) 9 9 0 1) floor).library[(2 : LibIx)] ≠ floor.library[(2 : LibIx)] ∧
    (after (.dispatchConfig (by' 1) (some ⟨0, 0, 0⟩)) floor).settings ≠ floor.settings ∧
    (after .secondTick floor).floorTime ≠ floor.floorTime ∧ (after .lineReset floor).lineResets ≠ floor.lineResets ∧
    (after (.undock (by' 6) 1) floor).handlers[(0 : HandlerId)].docked ≠ floor.handlers[(0 : HandlerId)].docked ∧
    (after (.lotRegister (by' 2) lotId code 500 2) floor).stampCounter ≠ floor.stampCounter ∧
    (after (.deviationSet (by' 6) 5 1 3 4 2) floor).deviations[(0 : DevId)] ≠ floor.deviations[(0 : DevId)] ∧
    (after .lineReset (running (guard none))).guards[(0 : HandlerId)] ≠ (running (guard none)).guards[(0 : HandlerId)] ∧
    (after (.stationRemove (by' 1) 21) floor).stations[(20 : StationId)].enrolled ≠ floor.stations[(20 : StationId)].enrolled ∧
    (after (.lotEndorse (by' 12) lotId 5) endorsed).releaseQueue ≠ endorsed.releaseQueue ∧
    (after (.lotEndorse (by' 12) lotId 5) fullQueue).waitingCounter ≠ fullQueue.waitingCounter ∧
    (∀ a b, Instr.secondTick ≠ .powerOnReset a b) := by
  refine ⟨by decide, by decide, by decide, by decide, by decide, by decide, by decide, by decide, by decide, by decide, by decide,
    by decide, ?_⟩
  simp

theorem witness_StepKeepsMirrors :
    floor.DockingMutual ∧ floor.BindingMutual ∧ floor.handlers[(0 : HandlerId)].docked = some 0 ∧
    floor.handlers[(0 : HandlerId)].bound = some 20 ∧ ∃ t, step { floor with pending := [.undock (by' 6) 1] } = .next t := by
  refine ⟨?_, ?_, by decide, by decide, after (.undock (by' 6) 1) floor, rfl⟩
  · simp only [State.DockingMutual]
    decide
  · simp only [State.BindingMutual]
    decide

/-- Every attention kind is in the list of them. -/
theorem kind_mem_all (k : AttentionKind) : k ∈ AttentionKind.all := by cases k <;> decide

theorem witness_StepKeepsStations : floor.FirstStation ∧ floor.MarksInMasks ∧
    ∃ t, step { floor with pending := [.stallExpiry 0] } = .next t := by
  refine ⟨⟨by decide, by decide, by decide⟩, fun i => ⟨fun k => ?_, ?_, ?_, ?_⟩, after (.stallExpiry 0) floor, rfl⟩
  · have h : ∀ i : StationId, ∀ k ∈ AttentionKind.all, floor.stations[i].mask.has k = true →
        (fullMask floor.stations[i].roles).has k = true := by decide
    exact h i k (kind_mem_all k)
  · revert i; decide
  · revert i; decide
  · revert i; decide

/-- The lot RESERVED for H1 under deviation entry 2, whose one pending use it is. -/
def deviatedLot : Lot := lotIn (.reserved wait1 0 ⟨⟨40, 4⟩, some 1⟩)

/-- The floor with that lot and that entry. -/
def deviatedFloor : State :=
  { floorWith (.preparing 7) [deviatedLot] with deviations := floor.deviations.set 1 (some (deviation 2 1)) }

theorem lots_deviatedFloor : deviatedFloor.lots = [deviatedLot] := rfl

theorem cells_deviatedFloor : ∀ h : HandlerId, deviatedFloor.handlers[h].cell = .preparing 7 ∧ h = 0 ∨
    deviatedFloor.handlers[h].cell = .offline := by decide

theorem consistent_deviatedFloor : deviatedFloor.Consistent where
  slots := slots_of_one rfl
  lotOnCell l hl := by
    rw [lots_deviatedFloor, List.mem_singleton] at hl
    subst hl
    rfl
  reservedOfCell h k hk := by
    rcases cells_deviatedFloor h with ⟨hc, rfl⟩ | hc
    · rw [hc] at hk
      obtain rfl := Option.some.inj hk
      exact ⟨deviatedLot, List.mem_singleton.mpr rfl, rfl, _, _, rfl⟩
    · rw [hc] at hk; cases hk
  currentOfCell h := by
    rcases cells_deviatedFloor h with ⟨hc, -⟩ | hc <;> refine ⟨fun k q hk => ?_, fun k q hk => ?_⟩ <;> rw [hc] at hk <;> cases hk
  holds l hl hne := by
    rw [lots_deviatedFloor, List.mem_singleton] at hl
    subst hl
    exact absurd rfl hne
  release := by
    refine ⟨by decide, by decide, fun r hr => (by cases hr), fun l hl hs => ?_⟩
    rw [lots_deviatedFloor, List.mem_singleton] at hl
    subst hl
    cases hs
  waiting h := absurd (by decide) h

theorem witness_StepKeepsCounts :
    (running (guard none)).CountersInRange ∧ (running (guard none)).CountsAgree ∧
    deviatedFloor.Consistent ∧ deviatedFloor.DeviationsCovered ∧ deviatedFloor.PendingCounts ∧
    (∃ t, step { deviatedFloor with pending := [.lotHold (by' 2) lotId] } = .next t) ∧
    ∃ t, step { running (guard none) with pending := [.touchdown (by' 21) lotId 0 [1, 1, 1, 1]] } = .next t := by
  refine ⟨?_, ?_, consistent_deviatedFloor, ?_, ?_, ⟨_, rfl⟩, after (.touchdown (by' 21) lotId 0 [1, 1, 1, 1]) (running (guard none)),
    rfl⟩
  · simp only [State.CountersInRange]; decide
  · simp only [State.CountsAgree, StepRecord.CountsAgree]; decide
  · simp only [State.DeviationsCovered]; decide
  · simp only [State.PendingCounts]; decide

theorem witness_StepKeepsLetGoByRoles :
    let l : Lot := { lotIn .released with endorsements := [⟨8, .quality, 0⟩, ⟨11, .dock, 1⟩] }
    let s : State := { floorWith .idle [l] with releaseQueue := [record] }
    s.LetGoByRoles ∧ l.state = .released ∧ ∃ t, step { s with pending := [.shipCollect (by' 12) lotId] } = .next t := by
  refine ⟨⟨slots_of_one rfl, fun x hx => ?_⟩, rfl, _, rfl⟩
  rw [List.mem_singleton.mp hx]
  exact ⟨by decide, by decide, fun _ => by decide⟩

/-- The RELEASED lot of a slot below 32. -/
def releasedLot (k : Fin 32) : Lot := { lotIn .released with slot := Fin.ofNat 256 k.val, id := [BitVec.ofNat 8 (33 + k.val)] }

/-- A COMPLETE lot that waits for a place. -/
def waitingLot : Lot := { lotIn (.complete (some 1)) with slot := 32, id := lotId }

/-- The floor with a full release queue and one lot that waits for a place in it. -/
def fullFloor : State :=
  { floorWith .idle ((List.finRange 32).map releasedLot ++ [waitingLot]) with
    releaseQueue := (List.finRange 32).map (fun k => { record with slot := (releasedLot k).slot }) }

theorem mem_fullFloor {l : Lot} (h : l ∈ fullFloor.lots) : (∃ k, l = releasedLot k) ∨ l = waitingLot := by
  rcases List.mem_append.mp h with h | h
  · obtain ⟨k, -, rfl⟩ := List.mem_map.mp h
    exact .inl ⟨k, rfl⟩
  · exact .inr (List.mem_singleton.mp h)

theorem released_mem_fullFloor (k : Fin 32) : releasedLot k ∈ fullFloor.lots :=
  List.mem_append_left _ (List.mem_map.mpr ⟨k, List.mem_finRange k, rfl⟩)

theorem cells_fullFloor : ∀ h : HandlerId, fullFloor.handlers[h].cell = .idle ∨ fullFloor.handlers[h].cell = .offline := by decide

set_option maxRecDepth 8000 in
theorem consistent_fullFloor : fullFloor.Consistent where
  slots := by simp only [State.SlotsInOrder]; decide
  lotOnCell l hl := by rcases mem_fullFloor hl with ⟨k, rfl⟩ | rfl <;> trivial
  reservedOfCell h k hk := by rcases cells_fullFloor h with hc | hc <;> rw [hc] at hk <;> cases hk
  currentOfCell h := by
    rcases cells_fullFloor h with hc | hc <;> refine ⟨fun k q hk => ?_, fun k q hk => ?_⟩ <;> rw [hc] at hk <;> cases hk
  holds l hl hne := by rcases mem_fullFloor hl with ⟨k, rfl⟩ | rfl <;> exact absurd rfl hne
  release := by
    refine ⟨by decide, by decide, fun r hr => ?_, fun l hl hs => ?_⟩
    · obtain ⟨k, -, rfl⟩ := List.mem_map.mp hr
      exact ⟨releasedLot k, released_mem_fullFloor k, rfl, rfl⟩
    · rcases mem_fullFloor hl with ⟨k, rfl⟩ | rfl
      · exact ⟨_, List.mem_map.mpr ⟨k, List.mem_finRange k, rfl⟩, rfl⟩
      · cases hs
  waiting _ := by decide

set_option maxRecDepth 8000 in
theorem witness_StepKeepsConsistent :
    runningActive.Consistent ∧ fullFloor.Consistent ∧ fullFloor.waitingList ≠ [] ∧
    (after (.shipCollect (by' 12) (releasedLot 0).id) fullFloor).releaseQueue ≠ fullFloor.releaseQueue ∧
    ∃ t, step { runningActive with pending := [.lotHold (by' 2) lotId] } = .next t :=
  ⟨consistent_runningActive, consistent_fullFloor, by decide, by decide, _, rfl⟩

end Sys2Proof.Tests
end

section
/-! SUPPORT. The step fields of a PRODUCT_DEFINE frame as they are stored, and the answer that reports
them (R25, R28, R30, R31). -/

namespace Sys2Proof.Machine

/-! ### The fields brought into range (R28) -/

/-- Bringing a value into a range that is not empty. -/
theorem clamp_eq {lo hi : Nat} (h : lo ≤ hi) (n : Nat) : clamp lo hi n = max lo (min hi n) := by
  unfold clamp
  split
  · omega
  · split <;> omega

theorem storedWindow_eq (w : Nat) : storedWindow w = max 16 (min 256 (w - w % 16)) := by
  have hround : w / 16 * 16 = w - w % 16 := by omega
  rw [storedWindow, hround, clamp_eq (by decide)]

theorem storedSoak_eq (n : Nat) : storedSoak n = min 3600 n := by
  unfold storedSoak
  split <;> omega

/-! ### The groups of the bins (R25) -/

/-- Each group code 0 to 3 names the group that has it; the default is never taken. -/
theorem BinGroup.code_ofCode? {n : Nat} (h : n ≤ 3) (other : BinGroup) :
    ((BinGroup.ofCode? n).getD other).code = n := by
  interval_cases n <;> rfl

/-- A frame in its given ranges gives one of the four groups for every bin. -/
theorem stepGivenOk_groupOf {g : StepGiven} (h : stepGivenOk g = true) (b : Fin 16) :
    ∃ n, g.groupOf[b.val]? = some n ∧ n ≤ 3 := by
  simp only [stepGivenOk, Bool.and_eq_true, decide_eq_true_eq, List.all_eq_true] at h
  have hlength : g.groupOf.length = 16 := by tauto
  have hcodes : ∀ n ∈ g.groupOf, n ≤ 3 := by tauto
  have hb : b.val < g.groupOf.length := by omega
  exact ⟨g.groupOf[b.val], List.getElem?_eq_getElem hb, hcodes _ (List.getElem_mem hb)⟩

/-- The group of each bin is stored as given. -/
theorem storeStep_groupOf_code {g : StepGiven} (h : stepGivenOk g = true) (b : Fin 16) :
    some ((storeStep g).groupOf[b].code) = g.groupOf[b.val]? := by
  obtain ⟨n, hn, hle⟩ := stepGivenOk_groupOf h b
  have hstored : (storeStep g).groupOf[b] = (g.groupOf[b.val]?.bind BinGroup.ofCode?).getD .a := vecOfFn_getElem_fin _ b
  rw [hstored, hn, Option.bind_some, BinGroup.code_ofCode? hle]

/-! ### The answer to a PRODUCT_DEFINE frame (R28, R30, R31) -/

/-- The content of an answer to an opening, a continuing or a completing frame, with the soak, H and W of a stored step. -/
def Body.ReportsStep (b : Body) (st : RouteStep) : Prop :=
  (∃ e n, b = .stepOpened e n st.soak st.hysteresis st.window) ∨
  (∃ n, b = .stepContinued n st.soak st.hysteresis st.window) ∨
  (∃ e, b = .definitionCompleted e st.soak st.hysteresis st.window)

/-- What holds of every reply to a PRODUCT_DEFINE frame, refused or not: the link and the stations are as before, and a reply
with OK reports the stored step. -/
structure Reply.AnswersStep (r : Reply) (st : RouteStep) (s : State) : Prop where
  link : r.state.link = s.link
  stations : r.state.stations = s.stations
  reports : r.result = .ok → r.body.ReportsStep st

theorem refuse_answersStep {e : Result} (h : e ≠ .ok) (st : RouteStep) (s : State) : (refuse s e).AnswersStep st s where
  link := rfl
  stations := rfl
  reports hok := absurd hok h

theorem accept_answersStep {b : Body} {st : RouteStep} (h : b.ReportsStep st) (s : State) (i : ProductIx) (p : ProductEntry) :
    (accept (s.setProduct i p) b).AnswersStep st s where
  link := rfl
  stations := rfl
  reports _ := h

theorem openDefinition_answersStep (sender : StationId) (i : ProductIx) (code : Text) (count : Nat) (st : RouteStep) (s : State) :
    (openDefinition sender i code count st s).AnswersStep st s := by
  unfold openDefinition
  split
  · exact refuse_answersStep (by decide) st s
  · split
    · exact refuse_answersStep (by decide) st s
    · exact accept_answersStep (.inl ⟨_, _, rfl⟩) s i _

theorem continueDefinition_answersStep (sender : StationId) (i : ProductIx) (code : Text) (count k : Nat) (st : RouteStep)
    (s : State) : (continueDefinition sender i code count k st s).AnswersStep st s := by
  unfold continueDefinition
  split
  · exact refuse_answersStep (by decide) st s
  · split
    · exact refuse_answersStep (by decide) st s
    · split
      · exact accept_answersStep (.inr (.inl ⟨_, rfl⟩)) s i _
      · split
        · exact refuse_answersStep (by decide) st s
        · exact accept_answersStep (.inr (.inr ⟨_, rfl⟩)) s i _

theorem productDefine_answersStep (sender : StationId) (index : Nat) (code : Text) (count k : Nat) (g : StepGiven) (s : State) :
    (productDefine sender index code count k g s).AnswersStep (storeStep g) s := by
  unfold productDefine
  split
  · exact refuse_answersStep (by decide) _ s
  · split
    · exact refuse_answersStep (by decide) _ s
    · split
      · exact openDefinition_answersStep sender _ code count _ s
      · exact continueDefinition_answersStep sender _ code count k _ s

/-- A field outside its given range refuses the frame, whatever its other content is. -/
theorem productDefine_of_not_stepGivenOk {g : StepGiven} (h : stepGivenOk g = false) (sender : StationId) (index : Nat)
    (code : Text) (count k : Nat) (s : State) : productDefine sender index code count k g s = refuse s .badFormat := by
  unfold productDefine
  split
  · rfl
  · simp [h]

/-! ### PRODUCT_DEFINE as a command -/

/-- A PRODUCT_DEFINE that is taken is answered by its block. -/
theorem exec_productDefine_of_takes {m : Msg} {s : State} (h : s.takes m .productDefine anyPayload = true) (index : Nat)
    (code : Text) (count k : Nat) (g : StepGiven) :
    let r := productDefine m.sender index code count k g s.taken
    exec (.productDefine m index code count k g) s = .next (r.state.answered m .productDefine r.result r.body) :=
  State.request_of_takes _ h

/-- The response a taken PRODUCT_DEFINE appends: with OK it reports the stored step. -/
theorem exec_productDefine_response {m : Msg} {index count k : Nat} {code : Text} {g : StepGiven} {s t : State}
    (htakes : s.takes m .productDefine anyPayload = true) (hexec : exec (.productDefine m index code count k g) s = .next t) :
    ∃ r b, t.link.responses = s.link.responses ++
        [{ receiver := m.sender, kind := Kind.productDefine.code, tag := m.tag, result := r
           attention := !s.stations[m.sender].attention.isEmpty, body := b }] ∧
      (r = .ok → b.ReportsStep (storeStep g)) := by
  obtain ⟨hlink, hstations, hreports⟩ := productDefine_answersStep m.sender index code count k g s.taken
  rw [exec_productDefine_of_takes htakes] at hexec
  cases hexec
  refine ⟨_, _, ?_, hreports⟩
  simp only [State.answered, hlink, hstations, State.taken_link, State.taken_stations]

/-- Settles O23: the stored fields by their arithmetic, the answer by what every reply to the frame reports. -/
theorem stepFieldsBroughtIntoRange : Obligations.StepFieldsBroughtIntoRange := by
  intro g
  refine ⟨storedWindow_eq g.window, rfl, storedSoak_eq g.soak, ?asGiven, ?answer, ?outOfRange⟩
  case asGiven => exact ⟨rfl, rfl, rfl, rfl, rfl, rfl, rfl, rfl, rfl, rfl, rfl, storeStep_groupOf_code⟩
  case answer => exact fun _ _ _ _ _ _ _ htakes hexec => exec_productDefine_response htakes hexec
  case outOfRange =>
    intro m index count k code s htakes hbad
    rw [exec_productDefine_of_takes htakes, productDefine_of_not_stepGivenOk hbad]
    rfl

end Sys2Proof.Machine
end

section
/-! SUPPORT. The terms of the dispatch score with their bounds (R53, R54). -/

namespace Sys2Proof.Machine

/-! ### The age credit and the class offset (R54) -/

theorem State.ageCredit_eq (s : State) (l : Lot) : s.ageCredit l = min l.age 86400 * s.settings.agingGain / 8 := rfl

theorem State.ageCredit_of_gain_zero {s : State} (hgain : s.settings.agingGain = 0) (l : Lot) : s.ageCredit l = 0 := by
  rw [State.ageCredit_eq, hgain, Nat.mul_zero, Nat.zero_div]

theorem State.ageCredit_of_gain_eight {s : State} (hgain : s.settings.agingGain = 8) (l : Lot) :
    s.ageCredit l = min l.age 86400 := by
  rw [State.ageCredit_eq, hgain, Nat.mul_div_cancel _ (by decide)]

/-- The largest credit is that of a lot at the age limit under the largest gain. -/
theorem State.ageCredit_le {s : State} (hgain : s.settings.agingGain ≤ 15) (l : Lot) : s.ageCredit l ≤ 162000 :=
  calc s.ageCredit l = min l.age 86400 * s.settings.agingGain / 8 := s.ageCredit_eq l
    _ ≤ 86400 * 15 / 8 := Nat.div_le_div_right (Nat.mul_le_mul (Nat.min_le_right _ _) hgain)
    _ = 162000 := by decide

theorem classOffset_eq : ∀ p : Nat, classOffset p = if p = 0 then 0 else if p = 1 then 3600 else if p = 2 then 7200 else 14400
  | 0 | 1 | 2 | _ + 3 => rfl

theorem classOffset_le (p : Nat) : classOffset p ≤ 14400 := by
  rw [classOffset_eq]
  split_ifs <;> decide

/-! ### The changeover (R53) -/

theorem State.kitTerm_le (s : State) (h : HandlerId) (st : RouteStep) : s.kitTerm h st ≤ s.settings.kitTerm := by
  unfold State.kitTerm
  split
  · exact Nat.zero_le _
  · exact Nat.le_refl _

/-- A ramp between two setpoints in range covers at most 230 degrees. -/
theorem rampTime_add_soak_le {a b : Int} {rate soak : Nat} (ha : -55 ≤ a ∧ a ≤ 175) (hb : -55 ≤ b ∧ b ≤ 175)
    (hrate : rate ≤ 60) (hsoak : soak ≤ 3600) : (a - b).natAbs * rate + soak ≤ 17400 := by
  have hdistance : (a - b).natAbs ≤ 230 := by omega
  have hramp : (a - b).natAbs * rate ≤ 230 * 60 := Nat.mul_le_mul hdistance hrate
  omega

theorem State.temperatureTerm_le {s : State} {h : HandlerId} {st : RouteStep} (hrate : s.handlers[h].rampRate ≤ 60)
    (hcurrent : ∀ c, s.handlers[h].setpoint = some c → -55 ≤ c ∧ c ≤ 175) (hstep : -55 ≤ st.setpoint ∧ st.setpoint ≤ 175)
    (hsoak : st.soak ≤ 3600) : s.temperatureTerm h st ≤ 17400 := by
  unfold State.temperatureTerm
  split
  next c hc =>
    split
    · exact Nat.zero_le _
    · exact rampTime_add_soak_le hstep (hcurrent c hc) hrate hsoak
  next => exact rampTime_add_soak_le hstep (by decide) hrate hsoak

theorem State.programTerm_le (s : State) (h : HandlerId) (p : Program) : s.programTerm h p ≤ s.estimateOf p := by
  unfold State.programTerm
  split
  · split
    · exact Nat.zero_le _
    · exact Nat.le_refl _
  · exact Nat.le_refl _

/-- The largest changeover: every kit time, the widest ramp with its soak, and the longest load. -/
theorem State.changeover_le {s : State} {h : HandlerId} {l : Lot} (hkit : s.settings.kitTerm ≤ 7200)
    (htemperature : s.temperatureTerm h (s.stepOf l) ≤ 17400) (hload : s.estimateOf (s.resolve l).program ≤ 1800) :
    s.changeover h l ≤ 26400 :=
  calc s.changeover h l
      = s.kitTerm h (s.stepOf l) + s.temperatureTerm h (s.stepOf l) + s.programTerm h (s.resolve l).program := rfl
    _ ≤ 7200 + 17400 + 1800 :=
        Nat.add_le_add (Nat.add_le_add ((s.kitTerm_le h _).trans hkit) htemperature) ((s.programTerm_le h _).trans hload)

/-! ### The score (R54) -/

theorem State.score_eq (s : State) (h : HandlerId) (l : Lot) :
    s.score h l = (if l.priority = 0 then 0 else if l.priority = 1 then 3600 else if l.priority = 2 then 7200 else 14400) +
      (s.changeover h l : Int) - (s.ageCredit l : Int) := by
  rw [State.score, classOffset_eq]
  push_cast
  rfl

/-- The score lies between the largest credit with nothing against it and the largest offset and changeover without credit. -/
theorem State.score_bounds {s : State} {h : HandlerId} {l : Lot} (hcredit : s.ageCredit l ≤ 162000)
    (hchangeover : s.changeover h l ≤ 26400) : -162000 ≤ s.score h l ∧ s.score h l ≤ 40800 := by
  have hoffset := classOffset_le l.priority
  unfold State.score
  omega

/-- Settles O34: the credit and the score by their equations, the range of the score by the bounds of its three terms. -/
theorem score : Obligations.Score := by
  intro s h l offset
  refine ⟨s.ageCredit_eq l, fun _ => s.score_eq h l, fun hgain => State.ageCredit_le hgain l, ?range, ?noGain,
    fun hgain => State.ageCredit_of_gain_eight hgain l⟩
  case range =>
    intro hgain hkit hrate hcurrent hlow hhigh hsoak hload _
    have htemperature := State.temperatureTerm_le hrate hcurrent ⟨hlow, hhigh⟩ hsoak
    exact State.score_bounds (State.ageCredit_le hgain l) (State.changeover_le hkit htemperature hload)
  case noGain =>
    intro hgain _
    rw [s.score_eq h l, State.ageCredit_of_gain_zero hgain, Nat.cast_zero, Int.sub_zero]

end Sys2Proof.Machine
end

section
/-! SUPPORT. The sequence check of a touchdown index, and the touchdowns it refuses (R109, R110). -/

namespace Sys2Proof.Machine

/-! ### The outcomes of the check (R110) -/

@[simp] theorem sequenceCheck_none (index : BitVec 16) : sequenceCheck none index = .accepted 0 := rfl

/-- The difference of two indices as a word is their integer difference modulo 65,536. -/
theorem toNat_index_sub (index last : BitVec 16) :
    ((index - last).toNat : Int) = ((index.toNat : Int) - last.toNat) % 65536 := by
  have hlast := last.isLt
  rw [BitVec.toNat_sub]
  omega

theorem sequenceCheck_some (last index : BitVec 16) {d : Int} (hd : ((index.toNat : Int) - last.toNat) % 65536 = d) :
    sequenceCheck (some last) index =
      if d = 0 then .duplicate else if d ≤ 256 then .accepted (d.toNat - 1) else .outOfSequence := by
  have hlimit (n : Nat) : n < Config.sequenceLimit ↔ n ≤ 256 := Nat.lt_succ_iff
  rw [← toNat_index_sub] at hd
  subst hd
  simp only [sequenceCheck, Int.toNat_natCast, hlimit]
  norm_cast

/-- The rows of R110's table for a run with a last accepted index. -/
theorem sequenceCheck_some_cases (last index : BitVec 16) :
    let d := ((index.toNat : Int) - last.toNat) % 65536
    (d = 0 → sequenceCheck (some last) index = .duplicate) ∧
    (d = 1 → sequenceCheck (some last) index = .accepted 0) ∧
    (2 ≤ d → d ≤ 256 → sequenceCheck (some last) index = .accepted (d.toNat - 1)) ∧
    (257 ≤ d → sequenceCheck (some last) index = .outOfSequence) := by
  intro d
  rw [sequenceCheck_some last index (d := d) rfl]
  clear_value d
  refine ⟨fun hd => if_pos hd, fun hd => ?next, fun hlow hhigh => ?skips, fun hd => ?out⟩
  case next => rw [hd]; rfl
  case skips => rw [if_neg (by omega), if_pos hhigh]
  case out => rw [if_neg (by omega), if_neg (by omega)]

/-! ### The last accepted index -/

/-- Counting units leaves the recorded index. -/
theorem GuardRun.countUnits_lastIndex (st : RouteStep) (enabled : BitVec 8) (us : List (SiteIx × Nat)) (g : GuardRun) :
    (g.countUnits st enabled us).lastIndex = g.lastIndex := by
  induction us generalizing g with
  | nil => rfl
  | cons u us ih => exact ih (g.countUnit st enabled u)

theorem State.countTouchdown_lastIndex (s : State) (h : HandlerId) (l : Lot) (g : GuardRun) (index : BitVec 16) (n : Nat)
    (us : List (SiteIx × Nat)) :
    ((s.countTouchdown h l g index n us).guards[h]).map GuardRun.lastIndex = some (some index) := by
  simp only [State.countTouchdown, set_getElem_self, Option.map_some]
  split
  · rfl
  · exact congrArg some (GuardRun.countUnits_lastIndex _ _ us _)

/-! ### TOUCHDOWN up to the check (R109) -/

theorem State.currentOf_eq_ok {s : State} {sender : StationId} {lot : Text} {l : Lot} {h : HandlerId}
    (hid : lotIdOk lot = true) (hlot : s.lotNamed? lot = some l) (hbound : s.stations[sender].bound = some h)
    (hcurrent : s.handlers[h].cell.current = some l.slot) : s.currentOf sender lot = .ok (h, l) := by
  unfold State.currentOf
  rw [hid, hlot]
  dsimp only
  rw [hbound]
  dsimp only
  rw [hcurrent]
  exact if_pos rfl

/-- A frame with its fields in range for the sender's current lot reaches the work on that lot. -/
theorem touchdown_of_currentOf {sender : StationId} {lot : Text} {index : BitVec 16} {results : List Nat} {h : HandlerId}
    {l : Lot} {s : State} (hid : lotIdOk lot = true) (hlength : 1 ≤ results.length ∧ results.length ≤ 8)
    (hbins : ∀ b ∈ results, b ≤ 16) (hcurrent : s.currentOf sender lot = .ok (h, l)) :
    touchdown sender lot index results s = s.touchdownOn h l index results := by
  have hformat : (lotIdOk lot && within 1 8 results.length && results.all (fun b => b ≤ 16)) = true := by
    simpa [hid, within, hlength] using hbins
  simp only [touchdown, hformat, hcurrent, Bool.not_true, Bool.false_eq_true, if_false]

/-- With as many results as sites and a run in progress, an index that fails the sequence check is refused as the check
says. -/
theorem State.touchdownOn_of_guard {s : State} {h : HandlerId} {g : GuardRun} {c : HandlerConfig} {results : List Nat}
    (hconfig : s.handlers[h].config = some c) (hcount : results.length = c.siteCount) (hguard : s.guards[h] = some g)
    (l : Lot) (index : BitVec 16) :
    (sequenceCheck g.lastIndex index = .duplicate → s.touchdownOn h l index results = refuse s .duplicate) ∧
    (sequenceCheck g.lastIndex index = .outOfSequence → s.touchdownOn h l index results = refuse s .outOfSequence) := by
  have hsites : s.handlers[h].config.all (fun c => c.siteCount ≠ results.length) = false := by
    rw [hconfig]
    simp [hcount]
  unfold State.touchdownOn
  rw [hsites, hguard]
  exact ⟨fun hcheck => by simp [hcheck], fun hcheck => by simp [hcheck]⟩

/-! ### TOUCHDOWN as a command -/

/-- A TOUCHDOWN that is taken is answered by its block. -/
theorem exec_touchdown_of_takes {m : Msg} {lot : Text} {index : BitVec 16} {results : List Nat} {s : State}
    (htakes : s.takes m .touchdown (readsAs readTouchdown m.fits (lot, index, results)) = true) :
    let r := touchdown m.sender lot index results s.taken
    exec (.touchdown m lot index results) s = .next (r.state.answered m .touchdown r.result r.body) :=
  State.request_of_takes _ htakes

/-- A TOUCHDOWN whose work refuses it only leaves the buffer and is answered. -/
theorem exec_touchdown_of_refuse {m : Msg} {lot : Text} {index : BitVec 16} {results : List Nat} {s : State} {e : Result}
    (htakes : s.takes m .touchdown (readsAs readTouchdown m.fits (lot, index, results)) = true)
    (hrefuse : touchdown m.sender lot index results s.taken = refuse s.taken e) :
    exec (.touchdown m lot index results) s = .next (s.taken.answered m .touchdown e .nothing) := by
  rw [exec_touchdown_of_takes htakes, hrefuse]
  rfl

/-- Settles O45: the table by the difference as an integer, the refusals by the work on the lot, which the check decides.
(The obligation's own name in lower case is the model's `sequenceCheck`.) -/
theorem sequenceCheck_of_touchdown : Obligations.SequenceCheck := by
  refine ⟨sequenceCheck_none, sequenceCheck_some_cases, State.countTouchdown_lastIndex, fun _ _ => rfl, ?refused⟩
  case refused =>
    intro m lot index results h l g c s htakes hid hbins hlot hbound hcurrent hconfig hcount hlow hhigh hguard
    have hcurrentOf : s.taken.currentOf m.sender lot = .ok (h, l) := State.currentOf_eq_ok hid hlot hbound hcurrent
    have hwork : touchdown m.sender lot index results s.taken = s.taken.touchdownOn h l index results :=
      touchdown_of_currentOf hid (by omega) hbins hcurrentOf
    obtain ⟨hduplicate, houtOfSequence⟩ := State.touchdownOn_of_guard (s := s.taken) hconfig hcount hguard l index
    exact ⟨fun hcheck => exec_touchdown_of_refuse htakes (hwork.trans (hduplicate hcheck)),
      fun hcheck => exec_touchdown_of_refuse htakes (hwork.trans (houtOfSequence hcheck))⟩

end Sys2Proof.Machine
end

section
/-! SUPPORT. TIME_SET: the layout of its payload, what it sets, and the tick after it (R182, R183). -/

namespace Sys2Proof.Machine

/-! ### A request whose payload does not fit its layout -/

/-- A request that is delivered and passes the checks of the Link Interface, but whose payload does not fit its layout, is
answered BAD_FORMAT before its block sees it (R175). -/
theorem State.request_of_not_fits {s : State} {k : Kind} {m : Msg} {reads : List Byte → Bool} (block : State → Reply)
    (hdelivers : s.delivers m k reads = true) (henrolled : s.stations[m.sender].enrolled = true)
    (hadmits : k.roleCheck.admits (s.rolesOf m.sender) = true) (hfits : m.fits = false) :
    s.request k m reads block = .next (s.taken.answered m k .badFormat .nothing) := by
  have hcheck : s.taken.linkCheck m.sender k.code = none := by
    rw [State.linkCheck_code]
    exact if_pos (Bool.and_eq_true_iff.2 ⟨henrolled, hadmits⟩)
  simp only [State.request, State.deliver_eq, hdelivers, if_true, hcheck, hfits, Bool.false_eq_true, if_false]
  rfl

/-- A check for one role admits exactly the stations that hold it. -/
@[simp] theorem RoleCheck.admits_roles_singleton (r : Role) (rs : RoleSet) : (RoleCheck.roles [r]).admits rs = rs.has r := by
  simp [RoleCheck.admits, RoleSet.hasAny]

/-! ### The layout of TIME_SET -/

/-- Four bytes read as the number they give. -/
theorem readTimeSet_of_length {payload : List Byte} (h : payload.length = 4) :
    readTimeSet payload = some (BitVec.ofNat 32 (bytesNumber payload)) := if_pos h

/-- A payload of another length has no reading. -/
theorem readTimeSet_of_length_ne {payload : List Byte} (h : payload.length ≠ 4) : readTimeSet payload = none := if_neg h

/-- A payload without a reading under its layout is one that does not fit, whatever content is named. -/
theorem readsAs_not_fits_of_none {α : Type} [DecidableEq α] {read : List Byte → Option α} {payload : List Byte}
    (h : read payload = none) (content : α) : readsAs read false content payload = true := by
  simp [readsAs, h]

/-! ### TIME_SET as a command, and the tick after it -/

/-- A TIME_SET that is taken sets floor time in the state its frame has left, and answers the time before and after. -/
theorem exec_timeSet_of_takes {m : Msg} {time : Time} {s : State}
    (htakes : s.takes m .timeSet (readsAs readTimeSet m.fits time) = true) :
    exec (.timeSet m time) s =
      .next ({ s.taken with floorTime := time }.answered m .timeSet .ok (.timeSet s.floorTime time)) :=
  State.request_of_takes (timeSet time) htakes

/-- A TIME_SET of a SUPERVISOR station whose payload does not fit is answered BAD_FORMAT and sets nothing. -/
theorem exec_timeSet_of_not_fits {m : Msg} {time : Time} {s : State} (hfits : m.fits = false)
    (hdelivers : s.delivers m .timeSet (readsAs readTimeSet m.fits time) = true)
    (henrolled : s.stations[m.sender].enrolled = true) (hrole : (s.rolesOf m.sender).has .supervisor = true) :
    exec (.timeSet m time) s = .next (s.taken.answered m .timeSet .badFormat .nothing) := by
  have hadmits : Kind.timeSet.roleCheck.admits (s.rolesOf m.sender) = true :=
    (RoleCheck.admits_roles_singleton .supervisor _).trans hrole
  exact State.request_of_not_fits (timeSet time) hdelivers henrolled hadmits hfits

/-- Out of reset, a second tick moves the part one tick on. -/
theorem exec_secondTick_of_not_inReset {s : State} (h : s.inReset = false) : exec .secondTick s = .next s.tick :=
  if_neg (by simp [h])

/-- Settles O16: the taken and the ill-formed request by what a request answers, the next tick by the tick from the new floor
time, the payloads by the layout. (The obligation's own name in lower case is the model's `timeSet`.) -/
theorem timeSet_sets_floorTime : Obligations.TimeSet := by
  intro m time s
  refine ⟨exec_timeSet_of_takes, ?tick, ?otherLength, ?fourBytes, exec_timeSet_of_not_fits, rfl⟩
  case tick =>
    intro hreset
    exact ⟨State.tick { s with floorTime := time }, exec_secondTick_of_not_inReset hreset, rfl⟩
  case otherLength =>
    intro payload hlength
    exact readsAs_not_fits_of_none (readTimeSet_of_length_ne hlength) time
  case fourBytes =>
    intro payload hlength
    exact ⟨_, readTimeSet_of_length hlength⟩

end Sys2Proof.Machine
end

section
/-! SUPPORT. What each command can do: the work of an accepted request, kind by kind (`Work`), and every effect of a command
(`Effect`).  Each is inverted once here; the invariants and the frames are read from the two. -/

namespace Sys2Proof.Machine

/-! ### The work of an accepted request -/

/-- The state after an accepted request of a kind, with the facts that its checks have established. -/
inductive Work : Kind → State → State → Prop
  | same (k : Kind) (s : State) : Work k s s
  | stationEnroll (s : State) (i : StationId) (rs : RoleSet) (new : Option HandlerId) (hfirst : i ≠ 0) (hroles : rs ≠ 0)
      (hfree : s.boundElsewhere i new = false) :
      Work .stationEnroll s ((s.bind i s.stations[i].bound new).updStation i (Station.enroll rs new))
  | stationRemove (s : State) (i : StationId) (hfirst : i ≠ 0) :
      Work .stationRemove s ((s.bind i s.stations[i].bound none).updStation i (fun _ => Station.initial))
  | attentionRead (s : State) (i : StationId) : Work .attentionRead s (s.updStation i (fun x => { x with attention := [] }))
  | attentionMask (s : State) (i : StationId) (kinds : BitVec 16) (henrolled : s.stations[i].enrolled = true) :
      Work .attentionMask s (s.updStation i (fun x =>
        { x with mask := maskFor s.stations[i].roles kinds
                 attention := x.attention.filter (fun m => (maskFor s.stations[i].roles kinds).has m.kind) }))
  | timeSet (s : State) (time : Time) : Work .timeSet s { s with floorTime := time }
  | lotRegister (s : State) (k : Slot) (id : Text) (p : ProductIx) (quantity priority : Nat) (hfree : s.freeSlot? = some k) :
      Work .lotRegister s ((s.addLot (newLot k id p quantity priority)).enterQueue k)
  | lotPurge (s : State) (l : Lot) (hl : l ∈ s.lots) (hpurge : l.purgeable = true) : Work .lotPurge s (s.dropLot l.slot)
  | lotEnd (s : State) (h : HandlerId) (l : Lot) (hl : l ∈ s.lots) (hcurrent : s.handlers[h].cell.current = some l.slot) :
      Work .lotEnd s (((s.closeStep l).1.afterClose l.slot).leaveHandler h)
  | productDefine (s : State) (i : ProductIx) (p : ProductEntry) : Work .productDefine s (s.setProduct i p)
  | productRemove (s : State) (i : ProductIx) (p : ProductEntry) : Work .productRemove s (s.setProduct i p)
  | programDefine (s : State) (i : LibIx) (e : Option LibraryEntry) : Work .programDefine s (s.setLibrary i e)
  | programWithdraw (s : State) (i : LibIx) (e : Option LibraryEntry) (p : Program) :
      Work .programWithdraw s ((s.setLibrary i e).applyWithdrawal p)
  | programRemove (s : State) (i : LibIx) (e : Option LibraryEntry) : Work .programRemove s (s.setLibrary i e)
  | callWork (s : State) (h : HandlerId) (l : Lot) (c : Choice) (hidle : s.handlers[h].cell = .idle)
      (hselect : s.select h = some (l, c)) : Work .callWork s (s.reserve h l)
  | lotBegin (s : State) (h : HandlerId) (t : TesterId) (l : Lot) (r : Resolved) (hl : l ∈ s.lots)
      (hready : s.handlers[h].cell = .ready l.slot) (hresolved : l.state.resolved? = some r) :
      Work .lotBegin s (s.beginLot h t l r).state
  | lotPriority (s : State) (k : Slot) (priority : Nat) :
      Work .lotPriority s (s.updLot k (fun l => { l with priority := priority }))
  | dispatchConfig (s : State) (x : Settings) : Work .dispatchConfig s { s with settings := x }
  | handlerConfig (s : State) (h : HandlerId) (c : HandlerConfig) :
      Work .handlerConfig s (s.updHandler h (fun x => { x with config := some c }))
  | handlerOnline (s : State) (h : HandlerId) (hoffline : s.handlers[h].cell = .offline) :
      Work .handlerOnline s (s.updHandler h (fun x =>
        { x with cell := .idle, thermal := .unknown, setpoint := none, target := none, stalled := false }))
  | offlineIdle (s : State) (h : HandlerId) (hidle : s.handlers[h].cell = .idle) :
      Work .handlerOffline s (s.updHandler h Handler.goOffline)
  | offlineReserved (s : State) (h : HandlerId) (k : Slot)
      (hcell : s.handlers[h].cell = .preparing k ∨ s.handlers[h].cell = .ready k) :
      Work .handlerOffline s ((s.cancelReservation k false).updHandler h Handler.goOffline)
  | dock (s : State) (h : HandlerId) (t : TesterId) (hh : s.handlers[h].docked = none) (ht : s.testers[t].docked = none) :
      Work .dock s ((s.updHandler h (fun x => { x with docked := some t })).updTester t (fun x => { x with docked := some h }))
  | undock (s : State) (h : HandlerId) (t : TesterId) (hdocked : s.handlers[h].docked = some t) :
      Work .undock s ((s.updHandler h (fun x => { x with docked := none })).updTester t (fun x => { x with docked := none }))
  | kitInstalled (s : State) (h : HandlerId) (kit : Option Nat) :
      Work .kitInstalled s ((s.updHandler h (fun x => { x with kit := kit })).readyCheck h)
  | tempReached (s : State) (h : HandlerId) (t : Target) :
      Work .tempReached s ((s.updHandler h (Handler.reach t)).readyCheck h)
  | tempLost (s : State) (h : HandlerId) :
      Work .tempLost s ((s.updHandler h (fun x => { x with thermal := .ramping })).holdThermal h)
  | handlerLock (s : State) (h : HandlerId) (i : StationId) :
      Work .handlerLock s (s.updHandler h (fun x => { x with lock := some i }))
  | handlerUnlock (s : State) (h : HandlerId) : Work .handlerUnlock s (s.updHandler h (fun x => { x with lock := none }))
  | testerEnable (s : State) (t : TesterId) : Work .testerConfig s (s.updTester t (fun x => { x with configured := true }))
  | testerDisable (s : State) (t : TesterId) :
      Work .testerConfig s (s.updTester t (fun x => { x with configured := false, active := none, staged := none }))
  | testerClear (s : State) (t : TesterId) : Work .testerConfig s (s.updTester t (fun x => { x with active := none }))
  | stageProgram (s : State) (t : TesterId) (p : Program) : Work .stageProgram s (s.startLoad t p 1)
  | programLoaded (s : State) (t : TesterId) (g : Staged) :
      Work .programLoaded s ((s.updTester t (fun x => { x with staged := some g })).loadEnded t)
  | abortReserved (s : State) (t : TesterId) (k : Slot) :
      Work .stageAbort s (((s.updTester t (fun x => { x with staged := none })).cancelReservation k false).loadEnded t)
  | abortFree (s : State) (t : TesterId) :
      Work .stageAbort s ((s.updTester t (fun x => { x with staged := none })).loadEnded t)
  | deviationSet (s : State) (d : DevId) (e : Deviation) (hfree : s.deviations[d] = none) (hpending : e.pending = 0)
      (hremaining : 1 ≤ e.remaining) : Work .deviationSet s (s.updDeviation d (fun _ => some e))
  | deviationClear (s : State) (d : DevId) (e : Deviation) (hentry : s.deviations[d] = some e) (hpending : e.pending = 0) :
      Work .deviationClear s (s.updDeviation d (fun _ => none))
  | touchdown (s : State) (h : HandlerId) (l : Lot) (g : GuardRun) (index : BitVec 16) (n : Nat) (results : List Nat)
      (hl : l ∈ s.lots) (hcurrent : s.handlers[h].cell.current = some l.slot) :
      Work .touchdown s (s.acceptTouchdown h l g index n results).state
  | siteEnable (s : State) (h : HandlerId) (c : HandlerConfig) (i : SiteIx) :
      Work .siteEnable s (s.enableSite h c i).state
  | lotHold (s : State) (l : Lot) (i : StationId) (hl : l ∈ s.lots) :
      Work .lotHold s (s.placeHold l.slot .manual (some i) 0).1
  | disposeContinue (s : State) (l : Lot) (r : HoldReason) (hl : l ∈ s.lots) (hheld : l.state = .held) :
      Work .lotDispose s (s.continueLot l.slot r)
  | disposeRescreen (s : State) (l : Lot) (hl : l ∈ s.lots) (hheld : l.state = .held) :
      Work .lotDispose s ((s.updLot l.slot Lot.rescreen).enterQueue l.slot)
  | disposeScrap (s : State) (l : Lot) (hl : l ∈ s.lots) (hheld : l.state = .held) :
      Work .lotDispose s (s.updLot l.slot Lot.scrap)
  | drained (s : State) (h : HandlerId) (l : Lot) (hl : l ∈ s.lots) (hcurrent : s.handlers[h].cell.current = some l.slot)
      (hdraining : l.state.name = .draining) : Work .drained s ((s.heldFromDrain l.slot).leaveHandler h)
  | lotEndorse (s : State) (l : Lot) (e : Endorsement) (hl : l ∈ s.lots) (hcomplete : l.state.name = .complete)
      (hstation : l.endorsedBy e.station = false) (hrole : l.endorsedIn e.role = false) :
      Work .lotEndorse s (s.endorse l e).state
  | endorseWithdraw (s : State) (l : Lot) (i : StationId) (hl : l ∈ s.lots) (hcomplete : l.state.name = .complete) :
      Work .endorseWithdraw s (s.updLot l.slot (Lot.withdraw i))
  | shipCollect (s : State) (l : Lot) (hl : l ∈ s.lots) (hreleased : l.state = .released) :
      Work .shipCollect s (s.collect l.slot)

/-- What a block's reply to a request of a kind is: a result other than OK with the state as it was, or OK with the kind's
work done. -/
def Reply.Does (r : Reply) (k : Kind) (s : State) : Prop :=
  (r.result ≠ .ok ∧ r.state = s) ∨ (r.result = .ok ∧ Work k s r.state)

/-- A reply that leaves the state as it was, whatever it answers. -/
theorem same_does {r : Reply} {k : Kind} {s : State} (h : r.state = s) : r.Does k s := by
  by_cases hok : r.result = .ok
  · exact .inr ⟨hok, h ▸ .same k r.state⟩
  · exact .inl ⟨hok, h⟩

theorem accept_does {k : Kind} {s t : State} (h : Work k s t) (b : Body) : (accept t b).Does k s := .inr ⟨rfl, h⟩

/-! ### The checks that several blocks share -/

theorem State.currentOf_ok {s : State} {sender : StationId} {lot : Text} {h : HandlerId} {l : Lot}
    (e : s.currentOf sender lot = .ok (h, l)) :
    lotIdOk lot = true ∧ s.lotNamed? lot = some l ∧ s.stations[sender].bound = some h ∧
      s.handlers[h].cell.current = some l.slot := by
  unfold State.currentOf at e
  split at e
  · cases e
  · next hid =>
    split at e
    · cases e
    · next l' hl =>
      split at e
      · cases e
      · next h' hh =>
        split at e
        · cases e
        · next k hk =>
          split at e
          · next hs =>
            cases e
            exact ⟨by simpa using hid, hl, hh, by rw [hk, hs]⟩
          · cases e

theorem State.disposable_ok {s : State} {lot : Text} {reason : Nat} {l : Lot} {e : HoldEntry}
    (h : s.disposable lot reason = .ok (l, e)) : s.lotNamed? lot = some l ∧ l.state = .held := by
  unfold State.disposable at h
  split at h
  · split at h
    · cases h
    · next x hx =>
      split at h
      · cases h
      · next hheld =>
        split at h
        · cases h
        · cases h
          exact ⟨hx, by simpa using hheld⟩
  · cases h

theorem State.onBound_does {k : Kind} {s : State} {sender : StationId} {f : HandlerId → Reply} (hf : ∀ h, (f h).Does k s) :
    (s.onBound sender f).Does k s := by
  unfold State.onBound
  split
  · exact same_does rfl
  · exact hf _

theorem State.configureTester_does {s : State} {sender : StationId} {tester : Nat} {f : TesterId → Reply}
    (hf : ∀ t, (f t).Does .testerConfig s) : (s.configureTester sender tester f).Does .testerConfig s := by
  unfold State.configureTester
  split
  · exact same_does rfl
  · split
    · exact same_does rfl
    · split
      · exact same_does rfl
      · exact hf _

/-! ### The blocks, by owner -/

theorem stationEnroll_does (station : Nat) (roles : Byte) (handler : Option Nat) (s : State) :
    (stationEnroll station roles handler s).Does .stationEnroll s := by
  unfold stationEnroll
  dsimp only
  split
  · exact same_does rfl
  · split
    · exact same_does rfl
    · next i _ hroles =>
      split
      · exact same_does rfl
      · split
        · exact same_does rfl
        · next hfree =>
          split
          · exact same_does rfl
          · simp only [Bool.or_eq_true, decide_eq_true_eq, not_or, not_le] at hroles
            obtain ⟨⟨hfirst, hne⟩, hlt⟩ := hroles
            refine accept_does (.stationEnroll s i _ _ hfirst ?_ (Bool.eq_false_of_not_eq_true hfree)) _
            intro hzero
            have hlow : (BitVec.setWidth 6 roles).toNat = 0 := by rw [hzero]; rfl
            rw [BitVec.toNat_setWidth] at hlow
            exact hne (BitVec.eq_of_toNat_eq (show roles.toNat = 0 by omega))

theorem stationRemove_does (station : Nat) (s : State) : (stationRemove station s).Does .stationRemove s := by
  unfold stationRemove
  split
  · exact same_does rfl
  · split
    · exact same_does rfl
    · next hfirst =>
      split
      · exact same_does rfl
      · exact accept_does (.stationRemove s _ hfirst) _

theorem attentionMask_does (sender : StationId) (kinds : Option (BitVec 16)) (s : State)
    (henrolled : s.stations[sender].enrolled = true) :
    (attentionMask sender kinds s).Does .attentionMask s := by
  unfold attentionMask
  split
  · exact same_does rfl
  · split
    · exact same_does rfl
    · exact accept_does (.attentionMask s sender _ henrolled) _

theorem lotRegister_does (lot product : Text) (quantity priority : Nat) (s : State) :
    (lotRegister lot product quantity priority s).Does .lotRegister s := by
  unfold lotRegister
  split
  · exact same_does rfl
  · split
    · exact same_does rfl
    · split
      · exact same_does rfl
      · split
        · exact same_does rfl
        · next hfree => exact accept_does (.lotRegister s _ _ _ _ _ hfree) _

theorem lotQuery_does (lot : Text) (part : LotPart) (s : State) : (lotQuery lot part s).Does .lotQuery s := by
  refine same_does ?_
  unfold lotQuery lotPartAnswer
  repeat' split
  all_goals rfl

theorem lotScan_does (after : Option Nat) (s : State) : (lotScan after s).Does .lotScan s := by
  refine same_does ?_
  unfold lotScan
  repeat' split
  all_goals rfl

theorem lotPurge_does (lot : Text) (s : State) : (lotPurge lot s).Does .lotPurge s := by
  unfold lotPurge
  split
  · exact same_does rfl
  · split
    · exact same_does rfl
    · next l hl =>
      split
      · next hpurge => exact accept_does (.lotPurge s l (State.lotNamed?_mem hl) hpurge) _
      · exact same_does rfl

theorem lotEnd_does (sender : StationId) (lot : Text) (s : State) : (lotEnd sender lot s).Does .lotEnd s := by
  unfold lotEnd
  split
  · exact same_does rfl
  · next h l e =>
    obtain ⟨-, hl, -, hcurrent⟩ := State.currentOf_ok e
    exact accept_does (.lotEnd s h l (State.lotNamed?_mem hl) hcurrent) _

theorem openDefinition_does (sender : StationId) (i : ProductIx) (code : Text) (count : Nat) (st : RouteStep) (s : State) :
    (openDefinition sender i code count st s).Does .productDefine s := by
  unfold openDefinition
  split
  · exact same_does rfl
  · split
    · exact same_does rfl
    · exact accept_does (.productDefine s i _) _

theorem continueDefinition_does (sender : StationId) (i : ProductIx) (code : Text) (count k : Nat) (st : RouteStep)
    (s : State) : (continueDefinition sender i code count k st s).Does .productDefine s := by
  unfold continueDefinition
  split
  · exact same_does rfl
  · split
    · exact same_does rfl
    · split
      · exact accept_does (.productDefine s i _) _
      · split
        · exact same_does rfl
        · exact accept_does (.productDefine s i _) _

theorem productDefine_does (sender : StationId) (index : Nat) (code : Text) (count k : Nat) (g : StepGiven) (s : State) :
    (productDefine sender index code count k g s).Does .productDefine s := by
  unfold productDefine
  split
  · exact same_does rfl
  · split
    · exact same_does rfl
    · split
      · exact openDefinition_does sender _ code count _ s
      · exact continueDefinition_does sender _ code count k _ s

theorem productRemove_does (name : ProductName) (s : State) : (productRemove name s).Does .productRemove s := by
  unfold productRemove
  split
  · exact same_does rfl
  · split
    · exact same_does rfl
    · exact accept_does (.productRemove s _ _) _

theorem productQuery_does (name : ProductName) (part : ProductPart) (s : State) :
    (productQuery name part s).Does .productQuery s := by
  refine same_does ?_
  unfold productQuery
  repeat' split
  all_goals rfl

theorem programDefine_does (sender : StationId) (programId revision : Nat) (signature : Signature) (estimate : Nat) (s : State) :
    (programDefine sender programId revision signature estimate s).Does .programDefine s := by
  unfold programDefine
  split
  · exact same_does rfl
  · split
    · exact same_does rfl
    · split
      · exact same_does rfl
      · exact accept_does (.programDefine s _ _) _

theorem programWithdraw_does (sender : StationId) (programId revision : Nat) (s : State) :
    (programWithdraw sender programId revision s).Does .programWithdraw s := by
  unfold programWithdraw
  split
  · exact same_does rfl
  · split
    · exact same_does rfl
    · split
      · exact same_does rfl
      · split
        · exact same_does rfl
        · exact accept_does (.programWithdraw s _ _ _) _

theorem programRemove_does (programId revision : Nat) (s : State) :
    (programRemove programId revision s).Does .programRemove s := by
  unfold programRemove
  split
  · exact same_does rfl
  · split
    · exact same_does rfl
    · split
      · exact same_does rfl
      · exact accept_does (.programRemove s _ _) _

theorem programQuery_does (key : LibraryKey) (s : State) : (programQuery key s).Does .programQuery s := by
  refine same_does ?_
  unfold programQuery State.libraryScan State.libraryAnswer
  repeat' split
  all_goals rfl

theorem callWork_does (sender : StationId) (s : State) : (callWork sender s).Does .callWork s := by
  unfold callWork State.callWorkOn
  split
  · exact same_does rfl
  · next h _ =>
    split
    · exact same_does rfl
    · split
      · exact same_does rfl
      · next hcell =>
        split
        · exact same_does rfl
        · next l c hselect =>
          have hidle : s.handlers[h].cell = .idle := by
            rw [Bool.or_eq_true, not_or] at hcell
            exact not_not.1 (fun hne => hcell.1 (decide_eq_true hne))
          exact accept_does (.callWork s _ l c hidle hselect) _

theorem lotBegin_does (sender : StationId) (lot : Text) (s : State) : (lotBegin sender lot s).Does .lotBegin s := by
  unfold lotBegin
  split
  · exact same_does rfl
  · split
    · exact same_does rfl
    · next l hl =>
      split
      · exact same_does rfl
      · split
        · exact same_does rfl
        · next h _ =>
          unfold State.beginOn
          split
          · next k hready =>
            split
            · exact same_does rfl
            · next hslot =>
              have hslot : l.slot = k := not_not.1 hslot
              split
              · next t r _ hresolved =>
                exact .inr ⟨rfl, .lotBegin s h t l r (State.lotNamed?_mem hl) (hslot ▸ hready) hresolved⟩
              · exact same_does rfl
          · exact same_does rfl

theorem lotPriority_does (lot : Text) (priority : Nat) (s : State) : (lotPriority lot priority s).Does .lotPriority s := by
  unfold lotPriority
  split
  · exact same_does rfl
  · split
    · exact same_does rfl
    · split
      · exact accept_does (.lotPriority s _ priority) _
      · exact same_does rfl

theorem queueQuery_does (queue : Option TempClass) (start : Nat) (s : State) : (queueQuery queue start s).Does .queueQuery s := by
  refine same_does ?_
  unfold queueQuery
  dsimp only
  repeat' split
  all_goals rfl

theorem dispatchConfig_does (given : Option SettingsGiven) (s : State) :
    (dispatchConfig given s).Does .dispatchConfig s := by
  unfold dispatchConfig
  split
  · exact same_does rfl
  · split
    · exact same_does rfl
    · exact accept_does (.dispatchConfig s _) _

theorem handlerConfig_does (sender : StationId) (handler : Nat) (capability : Byte) (sites ramp stall lookahead : Nat)
    (s : State) : (handlerConfig sender handler capability sites ramp stall lookahead s).Does .handlerConfig s := by
  unfold handlerConfig
  split
  · exact same_does rfl
  · split
    · exact same_does rfl
    · split
      · exact same_does rfl
      · split
        · exact same_does rfl
        · split
          · exact same_does rfl
          · exact accept_does (.handlerConfig s _ _) _

theorem bringOnline_does (h : HandlerId) (s : State) : (s.bringOnline h).Does .handlerOnline s := by
  unfold State.bringOnline
  split
  · next hok =>
    simp only [Bool.and_eq_true, decide_eq_true_eq] at hok
    exact accept_does (.handlerOnline s h hok.2) _
  · exact same_does rfl

theorem handlerOffline_does (sender : StationId) (handler : Option Nat) (s : State) :
    (handlerOffline sender handler s).Does .handlerOffline s := by
  unfold handlerOffline
  split
  · exact same_does rfl
  · next h _ =>
    unfold State.takeOffline
    split
    · exact same_does rfl
    · exact same_does rfl
    · exact same_does rfl
    · next hidle => exact accept_does (.offlineIdle s h hidle) _
    · next k hk => exact accept_does (.offlineReserved s h k (.inl hk)) _
    · next k hk => exact accept_does (.offlineReserved s h k (.inr hk)) _

theorem dock_does (sender : StationId) (handler tester : Nat) (s : State) : (dock sender handler tester s).Does .dock s := by
  unfold dock
  split
  · next h t _ _ =>
    split
    · exact same_does rfl
    · split
      · exact same_does rfl
      · split
        · exact same_does rfl
        · split
          · exact same_does rfl
          · split
            · exact same_does rfl
            · split
              · exact same_does rfl
              · next htaken htogether =>
                simp only [State.dockTaken, Bool.and_eq_true, Bool.or_eq_true, Bool.not_eq_true, htogether,
                  Bool.not_false, and_true, not_or, Option.isSome_eq_false_iff, Option.isNone_iff_eq_none] at htaken
                exact accept_does (.dock s h t htaken.1 htaken.2) _
  · exact same_does rfl

theorem undock_does (sender : StationId) (handler : Nat) (s : State) : (undock sender handler s).Does .undock s := by
  unfold undock
  split
  · exact same_does rfl
  · split
    · exact same_does rfl
    · split
      · exact same_does rfl
      · split
        · exact same_does rfl
        · next hdocked =>
          split
          · exact same_does rfl
          · exact accept_does (.undock s _ _ hdocked) _

theorem handlerLock_does (sender : StationId) (handler : Nat) (s : State) : (handlerLock sender handler s).Does .handlerLock s := by
  unfold handlerLock
  split
  · exact same_does rfl
  · split
    · split
      · exact same_does rfl
      · exact same_does rfl
    · split
      · exact accept_does (.handlerLock s _ sender) _
      · exact same_does rfl

theorem handlerUnlock_does (sender : StationId) (handler : Nat) (s : State) :
    (handlerUnlock sender handler s).Does .handlerUnlock s := by
  unfold handlerUnlock
  split
  · exact same_does rfl
  · split
    · exact same_does rfl
    · split
      · exact accept_does (.handlerUnlock s _) _
      · exact same_does rfl

theorem installKit_does (kit : Option Nat) (h : HandlerId) (s : State) : (s.installKit kit h).Does .kitInstalled s := by
  unfold State.installKit
  split
  · exact same_does rfl
  · split
    · exact same_does rfl
    · exact accept_does (.kitInstalled s h kit) _

theorem reachTemp_does (setpoint : Int) (h : HandlerId) (s : State) : (s.reachTemp setpoint h).Does .tempReached s := by
  unfold State.reachTemp
  split
  · exact same_does rfl
  · split
    · exact same_does rfl
    · next t _ =>
      split
      · exact same_does rfl
      · split
        · exact same_does rfl
        · split
          · exact accept_does (.tempReached s h t) _
          · exact same_does rfl

theorem loseTemp_does (h : HandlerId) (s : State) : (s.loseTemp h).Does .tempLost s := by
  unfold State.loseTemp
  split
  · exact same_does rfl
  · split
    · exact same_does rfl
    · exact same_does rfl
    · exact accept_does (.tempLost s h) _

theorem cellStatus_does (sender : StationId) (handler : Option Nat) (part : Option CellPart) (s : State) :
    (cellStatus sender handler part s).Does .cellStatus s := by
  refine same_does ?_
  unfold cellStatus
  repeat' split
  all_goals rfl

theorem disableTester_does (t : TesterId) (s : State) : (s.disableTester t).Does .testerConfig s := by
  unfold State.disableTester
  split
  · exact same_does rfl
  · split
    · exact same_does rfl
    · split
      · exact same_does rfl
      · exact accept_does (.testerDisable s t) _

theorem clearActive_does (t : TesterId) (s : State) : (s.clearActive t).Does .testerConfig s := by
  unfold State.clearActive
  split
  · exact same_does rfl
  · split
    · exact same_does rfl
    · exact accept_does (.testerClear s t) _

theorem testerQuery_does (tester : Nat) (s : State) : (testerQuery tester s).Does .testerQuery s := by
  refine same_does ?_
  unfold testerQuery
  split <;> rfl

theorem stageProgram_does (tester programId revision : Nat) (s : State) :
    (stageProgram tester programId revision s).Does .stageProgram s := by
  unfold stageProgram
  split
  · exact same_does rfl
  · split
    · exact same_does rfl
    · split
      · exact same_does rfl
      · split
        · exact same_does rfl
        · unfold State.stageOn
          split
          · exact same_does rfl
          · split
            · exact same_does rfl
            · split
              · exact same_does rfl
              · split
                · exact same_does rfl
                · exact accept_does (.stageProgram s _ _) _

theorem programLoaded_does (sender : StationId) (tester : Option Nat) (programId revision : Nat) (signature : Signature)
    (s : State) : (programLoaded sender tester programId revision signature s).Does .programLoaded s := by
  unfold programLoaded
  split
  · exact same_does rfl
  · split
    · exact same_does rfl
    · unfold State.reportLoad
      split
      · exact same_does rfl
      · split
        · exact same_does rfl
        · split
          · exact same_does rfl
          · exact accept_does (.programLoaded s _ _) _

theorem stageAbort_does (sender : StationId) (tester : Option Nat) (s : State) :
    (stageAbort sender tester s).Does .stageAbort s := by
  unfold stageAbort
  split
  · exact same_does rfl
  · unfold State.abortLoad
    split
    · exact same_does rfl
    · split
      · exact same_does rfl
      · dsimp only
        split
        · exact accept_does (.abortReserved s _ _) _
        · exact accept_does (.abortFree s _) _

theorem deviationSet_does (sender : StationId) (product step fromRevision substitute remaining : Nat) (s : State) :
    (deviationSet sender product step fromRevision substitute remaining s).Does .deviationSet s := by
  unfold deviationSet
  split
  · exact same_does rfl
  · split
    · exact same_does rfl
    · next hok =>
      have hremaining : 1 ≤ remaining := by
        simp only [within, Bool.not_eq_true', Bool.and_eq_true, decide_eq_true_eq, Bool.not_eq_false] at hok
        exact hok.2.1
      split
      · exact same_does rfl
      · split
        · exact same_does rfl
        · split
          · exact same_does rfl
          · next d hd =>
            exact accept_does (.deviationSet s d _ (by simpa using lowestIndex_some hd) rfl hremaining) _

theorem deviationClear_does (entry : Nat) (s : State) : (deviationClear entry s).Does .deviationClear s := by
  unfold deviationClear
  split
  · exact same_does rfl
  · split
    · exact same_does rfl
    · next e he =>
      split
      · exact same_does rfl
      · next hpending => exact accept_does (.deviationClear s _ e he (by omega)) _

theorem deviationQuery_does (entry : Option Nat) (s : State) : (deviationQuery entry s).Does .deviationQuery s := by
  refine same_does ?_
  unfold deviationQuery
  repeat' split
  all_goals rfl

theorem touchdown_does (sender : StationId) (lot : Text) (index : BitVec 16) (results : List Nat) (s : State) :
    (touchdown sender lot index results s).Does .touchdown s := by
  unfold touchdown
  split
  · exact same_does rfl
  · split
    · exact same_does rfl
    · next h l e =>
      obtain ⟨-, hl, -, hcurrent⟩ := State.currentOf_ok e
      unfold State.touchdownOn
      split
      · exact same_does rfl
      · split
        · exact same_does rfl
        · split
          · exact same_does rfl
          · exact same_does rfl
          · exact .inr ⟨rfl, .touchdown s h l _ _ _ _ (State.lotNamed?_mem hl) hcurrent⟩

theorem siteEnable_does (sender : StationId) (handler site : Nat) (s : State) :
    (siteEnable sender handler site s).Does .siteEnable s := by
  unfold siteEnable
  split
  · split
    · exact same_does rfl
    · split
      · exact same_does rfl
      · split
        · exact same_does rfl
        · split
          · exact same_does rfl
          · exact .inr ⟨rfl, .siteEnable s _ _ _⟩
  · exact same_does rfl

theorem yieldQuery_does (sender : StationId) (handler : Option Nat) (part : YieldPart) (s : State) :
    (yieldQuery sender handler part s).Does .yieldQuery s := by
  refine same_does ?_
  unfold yieldQuery State.yieldAnswer
  repeat' split
  all_goals rfl

theorem lotHold_does (sender : StationId) (lot : Text) (s : State) : (lotHold sender lot s).Does .lotHold s := by
  unfold lotHold
  split
  · exact same_does rfl
  · split
    · exact same_does rfl
    · next l hl =>
      split
      · exact same_does rfl
      · split
        · exact same_does rfl
        · split
          · exact same_does rfl
          · exact accept_does (.lotHold s l sender (State.lotNamed?_mem hl)) _

/-- The answer of a disposition reports the state as it stands. -/
theorem State.disposedAnswer_does {k : Kind} {s t : State} (h : Work k s t) (j : Slot) : (t.disposedAnswer j).Does k s := by
  unfold State.disposedAnswer
  split
  · exact accept_does h _
  · exact accept_does h _

theorem disposeContinue_does (sender : StationId) (lot : Text) (reason : Nat) (s : State) :
    (disposeContinue sender lot reason s).Does .lotDispose s := by
  unfold disposeContinue
  split
  · exact same_does rfl
  · next l e hok =>
    obtain ⟨hl, hheld⟩ := State.disposable_ok hok
    split
    · exact same_does rfl
    · split
      · exact same_does rfl
      · exact State.disposedAnswer_does (.disposeContinue s l _ (State.lotNamed?_mem hl) hheld) _

theorem disposeRescreen_does (sender : StationId) (lot : Text) (reason : Nat) (s : State) :
    (disposeRescreen sender lot reason s).Does .lotDispose s := by
  unfold disposeRescreen
  split
  · exact same_does rfl
  · next l e hok =>
    obtain ⟨hl, hheld⟩ := State.disposable_ok hok
    split
    · exact same_does rfl
    · split
      · exact same_does rfl
      · exact State.disposedAnswer_does (.disposeRescreen s l (State.lotNamed?_mem hl) hheld) _

theorem disposeScrap_does (sender : StationId) (lot : Text) (reason : Nat) (s : State) :
    (disposeScrap sender lot reason s).Does .lotDispose s := by
  unfold disposeScrap
  split
  · exact same_does rfl
  · next l e hok =>
    obtain ⟨hl, hheld⟩ := State.disposable_ok hok
    split
    · exact same_does rfl
    · exact State.disposedAnswer_does (.disposeScrap s l (State.lotNamed?_mem hl) hheld) _

theorem drained_does (sender : StationId) (lot : Text) (s : State) : (drained sender lot s).Does .drained s := by
  unfold drained
  split
  · exact same_does rfl
  · next h l e =>
    obtain ⟨-, hl, -, hcurrent⟩ := State.currentOf_ok e
    split
    · next hdraining =>
      exact accept_does (.drained s h l (State.lotNamed?_mem hl) hcurrent (by rw [hdraining]; rfl)) _
    · exact same_does rfl

theorem endorseOn_does (sender : StationId) (l : Lot) (r : Role) (s : State) (hl : l ∈ s.lots) :
    (s.endorseOn sender l r).Does .lotEndorse s := by
  unfold State.endorseOn
  split
  · exact same_does rfl
  · split
    · exact same_does rfl
    · split
      · exact same_does rfl
      · next hcomplete =>
        split
        · exact same_does rfl
        · split
          · exact same_does rfl
          · next hstation =>
            split
            · exact same_does rfl
            · next hrole =>
              have hwork := Work.lotEndorse s l { station := sender, role := r, time := s.floorTime } hl
                (not_not.1 hcomplete) (Bool.eq_false_of_not_eq_true hstation) (Bool.eq_false_of_not_eq_true hrole)
              refine .inr ⟨?_, hwork⟩
              unfold State.endorse State.lastEndorsement
              dsimp only
              repeat' split
              all_goals rfl

theorem lotEndorse_does (sender : StationId) (lot : Text) (role : Nat) (s : State) :
    (lotEndorse sender lot role s).Does .lotEndorse s := by
  unfold lotEndorse
  split
  · split
    · exact same_does rfl
    · next l hl => exact endorseOn_does sender l _ s (State.lotNamed?_mem hl)
  · exact same_does rfl

theorem endorseWithdraw_does (sender : StationId) (lot : Text) (s : State) :
    (endorseWithdraw sender lot s).Does .endorseWithdraw s := by
  unfold endorseWithdraw
  split
  · exact same_does rfl
  · split
    · exact same_does rfl
    · next l hl =>
      split
      · exact same_does rfl
      · next hcomplete =>
        split
        · exact same_does rfl
        · exact accept_does (.endorseWithdraw s l sender (State.lotNamed?_mem hl) (not_not.1 hcomplete)) _

theorem shipCollect_does (lot : Text) (s : State) : (shipCollect lot s).Does .shipCollect s := by
  unfold shipCollect
  split
  · exact same_does rfl
  · split
    · exact same_does rfl
    · next l hl =>
      split
      · exact same_does rfl
      · next hreleased =>
        split
        · exact accept_does (.shipCollect s l (State.lotNamed?_mem hl) (not_not.1 hreleased)) _
        · exact same_does rfl

theorem releaseQuery_does (part : ReleasePart) (s : State) : (releaseQuery part s).Does .releaseQuery s := by
  refine same_does ?_
  unfold releaseQuery State.recordOfLot State.recordAt State.recordAnswer
  dsimp only
  repeat' split
  all_goals rfl

/-- A request command is a request of its kind whose block does the kind's work or changes nothing. -/
theorem exec_request {c : Instr} {k : Kind} {m : Msg} (h : c.request? = some (k, m)) (s : State) :
    ∃ reads block, exec c s = s.request k m reads block ∧
      ∀ u, u.stations[m.sender].enrolled = true → (block u).Does k u := by
  cases c with
  | powerOnReset | lineReset | resetRelease | frameReceive | linkRefusal | responseSend | secondTick | queueTimeExpiry
  | soakExpiry | stagingDeadlineExpiry | stallExpiry => cases h
  | stationEnroll => cases h; exact ⟨_, _, rfl, fun u _ => stationEnroll_does _ _ _ u⟩
  | stationRemove => cases h; exact ⟨_, _, rfl, fun u _ => stationRemove_does _ u⟩
  | attentionRead => cases h; exact ⟨_, _, rfl, fun u _ => accept_does (.attentionRead u _) _⟩
  | attentionMask => cases h; exact ⟨_, _, rfl, fun u henrolled => attentionMask_does _ _ u henrolled⟩
  | timeSet => cases h; exact ⟨_, _, rfl, fun u _ => accept_does (.timeSet u _) _⟩
  | partStatus => cases h; exact ⟨_, _, rfl, fun u _ => same_does rfl⟩
  | lotRegister => cases h; exact ⟨_, _, rfl, fun u _ => lotRegister_does _ _ _ _ u⟩
  | lotQuery => cases h; exact ⟨_, _, rfl, fun u _ => lotQuery_does _ _ u⟩
  | lotScan => cases h; exact ⟨_, _, rfl, fun u _ => lotScan_does _ u⟩
  | lotPurge => cases h; exact ⟨_, _, rfl, fun u _ => lotPurge_does _ u⟩
  | lotEnd => cases h; exact ⟨_, _, rfl, fun u _ => lotEnd_does _ _ u⟩
  | productDefine => cases h; exact ⟨_, _, rfl, fun u _ => productDefine_does _ _ _ _ _ _ u⟩
  | productRemove => cases h; exact ⟨_, _, rfl, fun u _ => productRemove_does _ u⟩
  | productQuery => cases h; exact ⟨_, _, rfl, fun u _ => productQuery_does _ _ u⟩
  | programDefine => cases h; exact ⟨_, _, rfl, fun u _ => programDefine_does _ _ _ _ _ u⟩
  | programWithdraw => cases h; exact ⟨_, _, rfl, fun u _ => programWithdraw_does _ _ _ u⟩
  | programRemove => cases h; exact ⟨_, _, rfl, fun u _ => programRemove_does _ _ u⟩
  | programQuery => cases h; exact ⟨_, _, rfl, fun u _ => programQuery_does _ u⟩
  | callWork => cases h; exact ⟨_, _, rfl, fun u _ => callWork_does _ u⟩
  | lotBegin => cases h; exact ⟨_, _, rfl, fun u _ => lotBegin_does _ _ u⟩
  | lotPriority => cases h; exact ⟨_, _, rfl, fun u _ => lotPriority_does _ _ u⟩
  | queueQuery => cases h; exact ⟨_, _, rfl, fun u _ => queueQuery_does _ _ u⟩
  | dispatchConfig => cases h; exact ⟨_, _, rfl, fun u _ => dispatchConfig_does _ u⟩
  | handlerConfig => cases h; exact ⟨_, _, rfl, fun u _ => handlerConfig_does _ _ _ _ _ _ _ u⟩
  | handlerOnline => cases h; exact ⟨_, _, rfl, fun u _ => State.onBound_does (fun g => bringOnline_does g u)⟩
  | handlerOffline => cases h; exact ⟨_, _, rfl, fun u _ => handlerOffline_does _ _ u⟩
  | dock => cases h; exact ⟨_, _, rfl, fun u _ => dock_does _ _ _ u⟩
  | undock => cases h; exact ⟨_, _, rfl, fun u _ => undock_does _ _ u⟩
  | kitInstalled => cases h; exact ⟨_, _, rfl, fun u _ => State.onBound_does (fun g => installKit_does _ g u)⟩
  | tempReached => cases h; exact ⟨_, _, rfl, fun u _ => State.onBound_does (fun g => reachTemp_does _ g u)⟩
  | tempLost => cases h; exact ⟨_, _, rfl, fun u _ => State.onBound_does (fun g => loseTemp_does g u)⟩
  | handlerLock => cases h; exact ⟨_, _, rfl, fun u _ => handlerLock_does _ _ u⟩
  | handlerUnlock => cases h; exact ⟨_, _, rfl, fun u _ => handlerUnlock_does _ _ u⟩
  | cellStatus => cases h; exact ⟨_, _, rfl, fun u _ => cellStatus_does _ _ _ u⟩
  | testerConfigEnable =>
    cases h; exact ⟨_, _, rfl, fun u _ => State.configureTester_does (fun t => accept_does (.testerEnable u t) _)⟩
  | testerConfigDisable => cases h; exact ⟨_, _, rfl, fun u _ => State.configureTester_does (fun t => disableTester_does t u)⟩
  | testerConfigClearActive => cases h; exact ⟨_, _, rfl, fun u _ => State.configureTester_does (fun t => clearActive_does t u)⟩
  | testerQuery => cases h; exact ⟨_, _, rfl, fun u _ => testerQuery_does _ u⟩
  | stageProgram => cases h; exact ⟨_, _, rfl, fun u _ => stageProgram_does _ _ _ u⟩
  | programLoaded => cases h; exact ⟨_, _, rfl, fun u _ => programLoaded_does _ _ _ _ _ u⟩
  | stageAbort => cases h; exact ⟨_, _, rfl, fun u _ => stageAbort_does _ _ u⟩
  | deviationSet => cases h; exact ⟨_, _, rfl, fun u _ => deviationSet_does _ _ _ _ _ _ u⟩
  | deviationClear => cases h; exact ⟨_, _, rfl, fun u _ => deviationClear_does _ u⟩
  | deviationQuery => cases h; exact ⟨_, _, rfl, fun u _ => deviationQuery_does _ u⟩
  | touchdown => cases h; exact ⟨_, _, rfl, fun u _ => touchdown_does _ _ _ _ u⟩
  | siteEnable => cases h; exact ⟨_, _, rfl, fun u _ => siteEnable_does _ _ _ u⟩
  | yieldQuery => cases h; exact ⟨_, _, rfl, fun u _ => yieldQuery_does _ _ _ u⟩
  | lotHold => cases h; exact ⟨_, _, rfl, fun u _ => lotHold_does _ _ u⟩
  | lotDisposeContinue => cases h; exact ⟨_, _, rfl, fun u _ => disposeContinue_does _ _ _ u⟩
  | lotDisposeRescreen => cases h; exact ⟨_, _, rfl, fun u _ => disposeRescreen_does _ _ _ u⟩
  | lotDisposeScrap => cases h; exact ⟨_, _, rfl, fun u _ => disposeScrap_does _ _ _ u⟩
  | drained => cases h; exact ⟨_, _, rfl, fun u _ => drained_does _ _ u⟩
  | lotEndorse => cases h; exact ⟨_, _, rfl, fun u _ => lotEndorse_does _ _ _ u⟩
  | endorseWithdraw => cases h; exact ⟨_, _, rfl, fun u _ => endorseWithdraw_does _ _ u⟩
  | shipCollect => cases h; exact ⟨_, _, rfl, fun u _ => shipCollect_does _ u⟩
  | releaseQuery => cases h; exact ⟨_, _, rfl, fun u _ => releaseQuery_does _ u⟩

/-! ### Every effect of a command -/

/-- The queues and counters of the Link Interface are within their bounds (R171, R174, R184). -/
def Link.InRange (k : Link) : Prop :=
  k.rxBuffer.length ≤ 4 ∧ k.responses.length ≤ 4 ∧ k.badFrames ≤ 65535 ∧ k.dropped ≤ 65535 ∧ k.linkFaults ≤ 65535

/-- The states that a command can lead to. -/
inductive Effect : Instr → State → State → Prop
  | nothing (c : Instr) (s : State) : Effect c s s
  /-- a request answered: refused, with nothing done, or accepted, with the work of its kind done -/
  | answered (c : Instr) (k : Kind) (m : Msg) (r : Result) (b : Body) (s u : State) (hrequest : c.request? = some (k, m))
      (hroom : s.link.responses.length < 4) (hrefused : r ≠ .ok → u = s.taken) (haccepted : r = .ok → Work k s.taken u) :
      Effect c s (u.answered m k r b)
  /-- a frame in, a frame refused, or a response out -/
  | link (c : Instr) (s : State) (k : Link) (hrequest : c.request? = none) (hrange : s.link.InRange → k.InRange) : Effect c s { s with link := k }
  | powerOn (a b : Bool) (s : State) : Effect (.powerOnReset a b) s (powerOn a b s)
  | lineReset (s : State) : Effect .lineReset s s.lineReset
  | release (a b : Bool) (s : State) : Effect (.resetRelease a b) s (s.leaveReset a b)
  | tick (s : State) : Effect .secondTick s s.tick
  | queueTime (k : Slot) (s : State) : Effect (.queueTimeExpiry k) s (s.queueTimeExpiry k)
  | soak (h : HandlerId) (s : State) : Effect (.soakExpiry h) s (s.soakExpiry h)
  | deadline (t : TesterId) (s : State) : Effect (.stagingDeadlineExpiry t) s (s.deadlineExpiry t)
  | stall (h : HandlerId) (s : State) : Effect (.stallExpiry h) s (s.stallExpiry h)

theorem State.event_next {s t : State} {f : State → State} (h : s.event f = .next t) : t = s ∨ t = f s := by
  unfold State.event at h
  split at h
  · cases h; exact .inl rfl
  · cases h; exact .inr rfl

theorem countUp_le (n : Nat) : countUp n ≤ 65535 := by
  have hmax : Config.linkCounterMax = 65535 := rfl
  unfold countUp holdAt
  split <;> omega

theorem Link.receiveFrame_inRange {k : Link} (h : k.InRange) (r : Reception) : (k.receiveFrame r).InRange := by
  have hdepth : Config.linkDepth = 4 := rfl
  obtain ⟨hrx, hresponses, hbad, hdropped, hfaults⟩ := h
  unfold Link.receiveFrame
  split
  · exact ⟨hrx, hresponses, hbad, hdropped, hfaults⟩
  · exact ⟨hrx, hresponses, countUp_le _, hdropped, hfaults⟩
  · split
    · next hroom =>
      simp only [Bool.and_eq_true, decide_eq_true_eq] at hroom
      refine ⟨?_, hresponses, hbad, hdropped, hfaults⟩
      rw [List.length_append, List.length_singleton]
      omega
    · exact ⟨hrx, hresponses, hbad, hdropped, hfaults⟩

theorem Link.sendResponse_inRange {k : Link} (h : k.InRange) (o : SendOutcome) : (k.sendResponse o).InRange := by
  obtain ⟨hrx, hresponses, hbad, hdropped, hfaults⟩ := h
  unfold Link.sendResponse
  split
  · exact ⟨hrx, hresponses, hbad, hdropped, hfaults⟩
  · next r rest hq =>
    have hrest : rest.length ≤ 4 := by
      rw [hq, List.length_cons] at hresponses
      omega
    cases o with
    | readBackDiffers => exact ⟨hrx, hrest, hbad, hdropped, countUp_le _⟩
    | acknowledged => exact ⟨hrx, hrest, hbad, hdropped, hfaults⟩
    | notAcknowledged => exact ⟨hrx, hrest, hbad, countUp_le _, hfaults⟩

/-- A delivered frame leaves the head of the receive buffer, and there is room for its answer. -/
theorem State.deliver_some {s s1 : State} {sender : StationId} {kind : Nat} {tag : Fin 16} {reads : List Byte → Bool}
    (h : s.deliver sender kind tag reads = some s1) :
    s.link.responses.length < 4 ∧ s1 = s.taken := by
  have hdepth : Config.linkDepth = 4 := rfl
  unfold State.deliver at h
  split at h
  · cases h
  · next hno =>
    simp only [Bool.or_eq_true, decide_eq_true_eq, not_or, not_le, hdepth] at hno
    refine ⟨hno.2, ?_⟩
    split at h
    · next hempty => cases h; exact (State.taken_of_empty hempty).symm
    · next f rest hcons =>
      split at h
      · cases h
        simp [State.taken, State.updLink, hcons]
      · cases h

/-- An answer appended in a queue with room keeps the link within its bounds. -/
theorem State.link_answered_inRange {s u : State} (hroom : s.link.responses.length < 4) (hlink : u.link = s.taken.link)
    (m : Msg) (k : Kind) (r : Result) (b : Body) (h : s.link.InRange) : (u.answered m k r b).link.InRange := by
  obtain ⟨hrx, hresponses, hbad, hdropped, hfaults⟩ := h
  simp only [State.answered, hlink, State.taken]
  refine ⟨?_, ?_, hbad, hdropped, hfaults⟩
  · rw [List.length_tail]; omega
  · rw [List.length_append, List.length_singleton]; omega

theorem execLinkRefusal_effect {c : Instr} (hrequest : c.request? = none) {s t : State} {sender : StationId}
    {kind : Fin 64} {tag : Fin 16} (h : execLinkRefusal sender kind tag s = .next t) : Effect c s t := by
  unfold execLinkRefusal at h
  split at h
  · cases h; exact .nothing c s
  · next s1 hs1 =>
    obtain ⟨hroom, rfl⟩ := State.deliver_some hs1
    split at h
    · next r _ =>
      cases h
      refine .link c s _ hrequest (fun hrange => ?_)
      obtain ⟨hrx, hresponses, hbad, hdropped, hfaults⟩ := hrange
      refine ⟨?_, ?_, hbad, hdropped, hfaults⟩
      · simp only [refuse, State.taken, List.length_tail]; omega
      · simp only [refuse, State.taken, List.length_append, List.length_singleton]; omega
    · cases h; exact .nothing c s

theorem request_effect {c : Instr} {k : Kind} {m : Msg} {s t : State} (hrequest : c.request? = some (k, m))
    (h : exec c s = .next t) : Effect c s t := by
  obtain ⟨reads, block, hexec, hdoes⟩ := exec_request hrequest s
  rw [hexec] at h
  unfold State.request at h
  split at h
  · cases h; exact .nothing c s
  · next s1 hs1 =>
    obtain ⟨hroom, rfl⟩ := State.deliver_some hs1
    have refused : ∀ r : Result, r ≠ .ok → Effect c s (s.taken.answered m k r .nothing) := fun r hr =>
      .answered c k m r _ s _ hrequest hroom (fun _ => rfl) (fun hok => absurd hok hr)
    split at h
    · next r hr =>
      rw [State.linkCheck_code] at hr
      split at hr
      · cases hr
      · cases hr; cases h; exact refused .notPermitted (by decide)
    · next hadmitted =>
      have henrolled : s.taken.stations[m.sender].enrolled = true := by
        rw [State.linkCheck_code] at hadmitted
        split at hadmitted
        · next hboth => exact (Bool.and_eq_true_iff.1 hboth).1
        · cases hadmitted
      split at h
      · cases h
        rcases hdoes s.taken henrolled with ⟨hne, hsame⟩ | ⟨hok, hwork⟩
        · exact .answered c k m _ _ s _ hrequest hroom (fun _ => hsame) (fun hok => absurd hok hne)
        · exact .answered c k m _ _ s _ hrequest hroom (fun hne => absurd hok hne) (fun _ => hwork)
      · cases h; exact refused .badFormat (by decide)

/-- Everything that a command can do. -/
theorem exec_effect {c : Instr} {s t : State} (h : exec c s = .next t) : Effect c s t := by
  cases hrequest : c.request? with
  | some km => exact request_effect hrequest h
  | none =>
    cases c with
    | powerOnReset a b => cases h; exact .powerOn a b s
    | lineReset =>
      change execLineReset s = _ at h
      unfold execLineReset at h
      split at h
      · cases h; exact .nothing _ s
      · cases h; exact .lineReset s
    | resetRelease a b =>
      change execResetRelease a b s = _ at h
      unfold execResetRelease at h
      split at h
      · cases h; exact .release a b s
      · cases h; exact .nothing _ s
    | frameReceive levels =>
      rcases State.event_next (f := fun s => s.updLink (fun k => k.receiveFrame (receive levels))) h with rfl | rfl
      · exact .nothing _ _
      · exact .link _ s _ rfl (fun hrange => Link.receiveFrame_inRange hrange _)
    | linkRefusal sender kind tag => exact execLinkRefusal_effect rfl h
    | responseSend outcome =>
      rcases State.event_next (f := fun s => s.updLink (fun k => k.sendResponse outcome)) h with rfl | rfl
      · exact .nothing _ _
      · exact .link _ s _ rfl (fun hrange => Link.sendResponse_inRange hrange _)
    | secondTick =>
      rcases State.event_next h with rfl | rfl
      · exact .nothing _ _
      · exact .tick s
    | queueTimeExpiry k =>
      rcases State.event_next h with rfl | rfl
      · exact .nothing _ _
      · exact .queueTime k s
    | soakExpiry g =>
      rcases State.event_next h with rfl | rfl
      · exact .nothing _ _
      · exact .soak g s
    | stagingDeadlineExpiry u =>
      rcases State.event_next h with rfl | rfl
      · exact .nothing _ _
      · exact .deadline u s
    | stallExpiry g =>
      rcases State.event_next h with rfl | rfl
      · exact .nothing _ _
      · exact .stall g s
    | _ => cases hrequest

end Sys2Proof.Machine
end

section
/-! SUPPORT. The fields that no shared operation changes (`State.base`): products, library, settings, floor time, link, reset
state and the queue of commands.  From them: every command goes on (O2), and a refused request changes nothing (O10). -/

namespace Sys2Proof.Machine

/-! ### The fields outside the shared operations -/

/-- The fields that only a few commands write, each by itself: no operation shared by several commands changes one. -/
def State.base (s : State) :=
  (s.products, s.library, s.settings, s.floorTime, s.divider, s.link, s.resetCause, s.lineResets, s.inReset, s.pending)

section
variable (s : State)

@[simp] theorem State.updHandler_base (h : HandlerId) (f : Handler → Handler) : (s.updHandler h f).base = s.base := rfl
@[simp] theorem State.updTester_base (t : TesterId) (f : Tester → Tester) : (s.updTester t f).base = s.base := rfl
@[simp] theorem State.updStation_base (i : StationId) (f : Station → Station) : (s.updStation i f).base = s.base := rfl
@[simp] theorem State.updDeviation_base (d : DevId) (f : Option Deviation → Option Deviation) : (s.updDeviation d f).base = s.base := rfl
@[simp] theorem State.updLot_base (k : Slot) (f : Lot → Lot) : (s.updLot k f).base = s.base := rfl
@[simp] theorem State.setLotState_base (k : Slot) (x : LotState) : (s.setLotState k x).base = s.base := rfl
@[simp] theorem State.addLot_base (l : Lot) : (s.addLot l).base = s.base := rfl
@[simp] theorem State.dropLot_base (k : Slot) : (s.dropLot k).base = s.base := rfl
@[simp] theorem State.dropRecord_base (k : Slot) : (s.dropRecord k).base = s.base := rfl
@[simp] theorem State.enterQueue_base (k : Slot) : (s.enterQueue k).base = s.base := rfl
@[simp] theorem State.joinWaiting_base (k : Slot) : (s.joinWaiting k).base = s.base := rfl
@[simp] theorem State.endRunOf_base (k : Slot) : (s.endRunOf k).base = s.base := rfl
@[simp] theorem State.putLot_base (l : Lot) : (s.putLot l).base = s.base := rfl
@[simp] theorem State.markRoles_base (rs : List Role) (k : AttentionKind) (u : BitVec 16) : (s.markRoles rs k u).base = s.base := rfl
@[simp] theorem State.release_base (l : Lot) : (s.release l).base = s.base := rfl
@[simp] theorem State.heldFromDrain_base (k : Slot) : (s.heldFromDrain k).base = s.base := rfl

@[simp] theorem State.markBound_base (h : HandlerId) (k : AttentionKind) (u : BitVec 16) : (s.markBound h k u).base = s.base := by
  obtain ⟨_, e⟩ := s.markBound_frame h k u
  rw [e]
  rfl
@[simp] theorem State.markComplete_base (l : Lot) : (s.markComplete l).base = s.base := by
  obtain ⟨_, e⟩ := s.markComplete_frame l
  rw [e]
  rfl
@[simp] theorem State.markStagingFault_base (t : TesterId) : (s.markStagingFault t).base = s.base := by
  obtain ⟨_, e⟩ := s.markStagingFault_frame t
  rw [e]
  rfl
@[simp] theorem State.readyCheck_base (h : HandlerId) : (s.readyCheck h).base = s.base := by
  obtain ⟨_, _, e⟩ := s.readyCheck_frame h
  rw [e]
  rfl
@[simp] theorem State.applySetup_base (h : HandlerId) (k : Slot) : (s.applySetup h k).base = s.base := by
  obtain ⟨_, _, e⟩ := s.applySetup_frame h k
  rw [e]
  rfl
@[simp] theorem State.startLoad_base (t : TesterId) (p : Program) (n : Nat) : (s.startLoad t p n).base = s.base := by
  obtain ⟨_, _, e⟩ := s.startLoad_frame t p n
  rw [e]
  rfl
@[simp] theorem State.beginStaging_base (t : TesterId) (p : Program) : (s.beginStaging t p).base = s.base := by
  obtain ⟨_, _, e⟩ := s.beginStaging_frame t p
  rw [e]
  rfl
@[simp] theorem State.updPending_base (d : Option DevId) (f : Nat → Nat) : (s.updPending d f).base = s.base := by
  obtain ⟨_, e⟩ := s.updPending_frame d f
  rw [e]
  rfl
@[simp] theorem State.useDeviation_base (d : Option DevId) : (s.useDeviation d).base = s.base := by
  obtain ⟨_, e⟩ := s.useDeviation_frame d
  rw [e]
  rfl
@[simp] theorem State.cancelReservation_base (k : Slot) (held : Bool) : (s.cancelReservation k held).base = s.base := by
  obtain ⟨_, _, _, _, e⟩ := s.cancelReservation_frame k held
  rw [e]
  rfl
@[simp] theorem State.reserve_base (h : HandlerId) (l : Lot) : (s.reserve h l).base = s.base := by
  obtain ⟨_, _, _, _, _, e⟩ := s.reserve_frame h l
  rw [e]
  rfl
@[simp] theorem State.loadEnded_base (t : TesterId) : (s.loadEnded t).base = s.base := by
  obtain ⟨_, _, _, _, _, e⟩ := s.loadEnded_frame t
  rw [e]
  rfl
@[simp] theorem State.afterLoad_base (t : TesterId) : (s.afterLoad t).base = s.base := by
  obtain ⟨_, _, _, _, _, e⟩ := s.afterLoad_frame t
  rw [e]
  rfl
@[simp] theorem State.offerPlace_base : (s.offerPlace).base = s.base := by
  obtain ⟨_, _, _, e⟩ := s.offerPlace_frame
  rw [e]
  rfl
@[simp] theorem State.recall_base (k : Slot) : (s.recall k).base = s.base := by
  obtain ⟨_, _, _, e⟩ := s.recall_frame k
  rw [e]
  rfl
@[simp] theorem State.collect_base (k : Slot) : (s.collect k).base = s.base := by
  obtain ⟨_, _, _, e⟩ := s.collect_frame k
  rw [e]
  rfl
@[simp] theorem State.leaveHandler_base (h : HandlerId) : (s.leaveHandler h).base = s.base := by
  obtain ⟨_, _, _, e⟩ := s.leaveHandler_frame h
  rw [e]
  rfl
@[simp] theorem State.proceed_base (k : Slot) : (s.proceed k).base = s.base := by
  obtain ⟨_, _, _, e⟩ := s.proceed_frame k
  rw [e]
  rfl
@[simp] theorem State.afterClose_base (k : Slot) : (s.afterClose k).base = s.base := by
  obtain ⟨_, _, _, e⟩ := s.afterClose_frame k
  rw [e]
  rfl
@[simp] theorem State.afterContinue_base (k : Slot) : (s.afterContinue k).base = s.base := by
  obtain ⟨_, _, _, e⟩ := s.afterContinue_frame k
  rw [e]
  rfl
@[simp] theorem State.continueLot_base (k : Slot) (r : HoldReason) : (s.continueLot k r).base = s.base := by
  obtain ⟨_, _, _, e⟩ := s.continueLot_frame k r
  rw [e]
  rfl
@[simp] theorem State.cancelAll_base (p : Program) : (s.cancelAll p).base = s.base := by
  obtain ⟨_, _, _, _, e⟩ := s.cancelAll_frame p
  rw [e]
  rfl
@[simp] theorem State.applyWithdrawal_base (p : Program) : (s.applyWithdrawal p).base = s.base := by
  obtain ⟨_, _, _, _, _, _, e⟩ := s.applyWithdrawal_frame p
  rw [e]
  rfl
@[simp] theorem State.bind_base (i : StationId) (old new : Option HandlerId) : (s.bind i old new).base = s.base := by
  obtain ⟨_, e⟩ := s.bind_frame i old new
  rw [e]
  rfl

@[simp] theorem State.addHold_base (k : Slot) (r : HoldReason) (who : Option StationId) (gs : BitVec 4) : (s.addHold k r who gs).1.base = s.base := by
  obtain ⟨_, _, e⟩ := s.addHold_frame k r who gs
  rw [e]
  rfl
@[simp] theorem State.addHoldIf_base (c : Bool) (k : Slot) (r : HoldReason) : (s.addHoldIf c k r).1.base = s.base := by
  obtain ⟨_, _, e⟩ := s.addHoldIf_frame c k r
  rw [e]
  rfl
@[simp] theorem State.placeHold_base (k : Slot) (r : HoldReason) (who : Option StationId) (gs : BitVec 4) : (s.placeHold k r who gs).1.base = s.base := by
  obtain ⟨_, _, _, _, _, e⟩ := s.placeHold_frame k r who gs
  rw [e]
  rfl
@[simp] theorem State.closeStep_base (l : Lot) : (s.closeStep l).1.base = s.base := by
  obtain ⟨_, _, e⟩ := s.closeStep_frame l
  rw [e]
  rfl
@[simp] theorem State.lookahead_base (h : HandlerId) : (s.lookahead h).1.base = s.base := by
  obtain ⟨_, _, _, _, _, e⟩ := s.lookahead_frame h
  rw [e]
  rfl
@[simp] theorem State.siteCheck_base (st : RouteStep) (h : HandlerId) (sites : Vector SiteCount 8) : (s.siteCheck st h sites).1.base = s.base := by
  obtain ⟨_, _, e⟩ := s.siteCheck_frame st h sites
  rw [e]
  rfl
@[simp] theorem State.checkTouchdown_base (h : HandlerId) (k : Slot) : (s.checkTouchdown h k).1.state.base = s.base := by
  obtain ⟨_, _, _, _, _, e⟩ := s.checkTouchdown_frame h k
  rw [e]
  rfl
@[simp] theorem State.countTouchdown_base (h : HandlerId) (l : Lot) (g : GuardRun) (i : BitVec 16) (n : Nat)
    (us : List (SiteIx × Nat)) : (s.countTouchdown h l g i n us).base = s.base := rfl

@[simp] theorem State.holdThermal_base (h : HandlerId) : (s.holdThermal h).base = s.base := by
  unfold State.holdThermal
  split
  · exact s.placeHold_base _ _ _ _
  · exact s.readyCheck_base h

@[simp] theorem State.beginLot_base (h : HandlerId) (t : TesterId) (l : Lot) (r : Resolved) :
    (s.beginLot h t l r).state.base = s.base :=
  (State.useDeviation_base (s.updTester t (Tester.swapTo r.program)) r.deviation).trans rfl

/-- The state after an accepted touchdown: counted, and checked where a unit was counted; then the stall countdown and the
lookahead selection. -/
theorem State.acceptTouchdown_state (h : HandlerId) (l : Lot) (g : GuardRun) (i : BitVec 16) (n : Nat) (results : List Nat) :
    ∃ u, (u = s.countTouchdown h l g i n (unitsOf results) ∨
        u = ((s.countTouchdown h l g i n (unitsOf results)).checkTouchdown h l.slot).1.state) ∧
      (s.acceptTouchdown h l g i n results).state = ((u.updHandler h Handler.restartStall).lookahead h).1 := by
  refine ⟨_, ?_, rfl⟩
  split
  · exact .inl rfl
  · split
    · exact .inl rfl
    · exact .inr rfl

@[simp] theorem State.acceptTouchdown_base (h : HandlerId) (l : Lot) (g : GuardRun) (i : BitVec 16) (n : Nat)
    (results : List Nat) : (s.acceptTouchdown h l g i n results).state.base = s.base := by
  obtain ⟨u, rfl | rfl, e⟩ := s.acceptTouchdown_state h l g i n results
  · rw [e]; simp
  · rw [e]; simp

@[simp] theorem State.endorse_base (l : Lot) (e : Endorsement) : (s.endorse l e).state.base = s.base := by
  unfold State.endorse State.lastEndorsement
  dsimp only
  repeat' split
  all_goals rfl

end

/-! ### The base of an accepted request -/

/-- The base after an accepted request: as before, but for the field that a writing kind writes. -/
inductive BaseChange : Kind → State → State → Prop
  | same (k : Kind) (s t : State) (h : t.base = s.base) : BaseChange k s t
  | products (k : Kind) (s : State) (i : ProductIx) (p : ProductEntry) (hk : k ∈ [.productDefine, .productRemove]) :
      BaseChange k s (s.setProduct i p)
  | library (k : Kind) (s t : State) (i : LibIx) (e : Option LibraryEntry)
      (hk : k ∈ [.programDefine, .programWithdraw, .programRemove]) (h : t.base = (s.setLibrary i e).base) : BaseChange k s t
  | settings (s : State) (x : Settings) : BaseChange .dispatchConfig s { s with settings := x }
  | floorTime (s : State) (x : Time) : BaseChange .timeSet s { s with floorTime := x }

theorem Work.baseChange {k : Kind} {s t : State} (w : Work k s t) : BaseChange k s t := by
  cases w with
  | timeSet => exact .floorTime _ _
  | productDefine => exact .products _ _ _ _ (by decide)
  | productRemove => exact .products _ _ _ _ (by decide)
  | programDefine => exact .library _ _ _ _ _ (by decide) rfl
  | programRemove => exact .library _ _ _ _ _ (by decide) rfl
  | programWithdraw => exact .library _ _ _ _ _ (by decide) (State.applyWithdrawal_base _ _)
  | dispatchConfig => exact .settings _ _
  | siteEnable => exact .same _ _ _ rfl
  | _ => exact .same _ _ _ (by simp)

/-- No accepted request touches the link, the reset state, or the queue of commands. -/
theorem Work.keeps_link {k : Kind} {s t : State} (w : Work k s t) :
    t.link = s.link ∧ t.pending = s.pending ∧ t.resetCause = s.resetCause ∧ t.lineResets = s.lineResets := by
  cases w.baseChange with
  | same _ _ _ h =>
    simp only [State.base, Prod.mk.injEq] at h
    obtain ⟨-, -, -, -, -, hlink, hcause, hresets, -, hpending⟩ := h
    exact ⟨hlink, hpending, hcause, hresets⟩
  | library _ _ _ _ _ _ h =>
    simp only [State.base, Prod.mk.injEq] at h
    obtain ⟨-, -, -, -, -, hlink, hcause, hresets, -, hpending⟩ := h
    exact ⟨hlink, hpending, hcause, hresets⟩
  | products | settings | floorTime => exact ⟨rfl, rfl, rfl, rfl⟩

/-! ### The events -/

theorem State.lineReset_pending (s : State) : s.lineReset.pending = s.pending := by
  obtain ⟨_, _, e⟩ := s.placeInterrupted_frame
  simp only [State.lineReset, e]

theorem State.queueTimeExpiry_base (s : State) (k : Slot) : (s.queueTimeExpiry k).base = s.base := by
  unfold State.queueTimeExpiry
  split
  · split
    · simp
    · rfl
  · rfl

theorem State.soakExpiry_base (s : State) (h : HandlerId) : (s.soakExpiry h).base = s.base := by
  unfold State.soakExpiry
  split
  · simp
  · rfl

theorem State.deadlineExpiry_base (s : State) (t : TesterId) : (s.deadlineExpiry t).base = s.base := by
  unfold State.deadlineExpiry
  split
  · split
    · simp
    · rfl
  · rfl

theorem State.stallExpiry_base (s : State) (h : HandlerId) : (s.stallExpiry h).base = s.base := by
  unfold State.stallExpiry
  split
  · simp
  · rfl

theorem State.pending_of_base {s t : State} (h : t.base = s.base) : t.pending = s.pending := by
  simp only [State.base, Prod.mk.injEq] at h
  obtain ⟨-, -, -, -, -, -, -, -, -, hpending⟩ := h
  exact hpending

/-- No command changes the queue of the commands that wait. -/
theorem Effect.keeps_pending {c : Instr} {s t : State} (e : Effect c s t) : t.pending = s.pending := by
  cases e with
  | nothing => rfl
  | answered _ k m r b _ u _ _ hrefused haccepted =>
    by_cases hok : r = .ok
    · exact (haccepted hok).keeps_link.2.1
    · rw [hrefused hok]; rfl
  | link => rfl
  | powerOn => rfl
  | lineReset => exact s.lineReset_pending
  | release => rfl
  | tick => rfl
  | queueTime k => exact State.pending_of_base (s.queueTimeExpiry_base k)
  | soak h => exact State.pending_of_base (s.soakExpiry_base h)
  | deadline u => exact State.pending_of_base (s.deadlineExpiry_base u)
  | stall h => exact State.pending_of_base (s.stallExpiry_base h)

/-! ### Every command goes on -/

theorem State.event_isNext (s : State) (f : State → State) : ∃ t, s.event f = .next t := by
  unfold State.event
  split
  · exact ⟨_, rfl⟩
  · exact ⟨_, rfl⟩

theorem execLinkRefusal_isNext (sender : StationId) (kind : Fin 64) (tag : Fin 16) (s : State) :
    ∃ t, execLinkRefusal sender kind tag s = .next t := by
  unfold execLinkRefusal
  split
  · exact ⟨_, rfl⟩
  · split
    · exact ⟨_, rfl⟩
    · exact ⟨_, rfl⟩

/-- Every command has a next state in every state. -/
theorem exec_isNext (c : Instr) (s : State) : ∃ t, exec c s = .next t := by
  cases hrequest : c.request? with
  | some km =>
    obtain ⟨reads, block, hexec, -⟩ := exec_request (k := km.1) (m := km.2) hrequest s
    rw [hexec]
    exact s.request_next _ _ _ _
  | none =>
    cases c with
    | powerOnReset a b => exact ⟨_, rfl⟩
    | lineReset => exact (ite_eq_or_eq _ _ _).elim (fun h => ⟨_, h⟩) (fun h => ⟨_, h⟩)
    | resetRelease a b => exact (ite_eq_or_eq _ _ _).elim (fun h => ⟨_, h⟩) (fun h => ⟨_, h⟩)
    | frameReceive levels => exact s.event_isNext (fun s => s.updLink (fun k => k.receiveFrame (receive levels)))
    | linkRefusal sender kind tag => exact execLinkRefusal_isNext sender kind tag s
    | responseSend outcome => exact s.event_isNext (fun s => s.updLink (fun k => k.sendResponse outcome))
    | secondTick => exact s.event_isNext State.tick
    | queueTimeExpiry k => exact s.event_isNext (State.queueTimeExpiry k)
    | soakExpiry h => exact s.event_isNext (State.soakExpiry h)
    | stagingDeadlineExpiry u => exact s.event_isNext (State.deadlineExpiry u)
    | stallExpiry h => exact s.event_isNext (State.stallExpiry h)
    | _ => cases hrequest

/-- Settles O2: every command has a next state, and every effect keeps the queue of commands. -/
theorem everyCommandGoesOn : Obligations.EveryCommandGoesOn := by
  intro c s
  obtain ⟨t, ht⟩ := exec_isNext c s
  exact ⟨t, ht, (exec_effect ht).keeps_pending⟩

/-- Settles O10: of the effects of a command only an answered request is one of a request that changes the state. -/
theorem refusalsChangeNothing : Obligations.RefusalsChangeNothing := by
  intro c k m s t hrequest hexec hne
  cases exec_effect hexec with
  | nothing => exact absurd rfl hne
  | answered _ k' m' r b _ u hrequest' _ hrefused _ =>
    rw [hrequest] at hrequest'
    cases hrequest'
    exact ⟨r, b, u, rfl, hrefused⟩
  | link _ _ _ hnone => rw [hrequest] at hnone; cases hnone
  | powerOn | lineReset | release | tick | queueTime | soak | deadline | stall => cases hrequest

end Sys2Proof.Machine
end

section
/-! SUPPORT. What the operations that several commands share are made of: chains of minor changes (`Minor`).  A property that
every minor change keeps is kept by all of them. -/

namespace Sys2Proof.Machine

/-! ### Minor changes -/

/-- The counts of every step record of a lot agree. -/
def Lot.CountsOk (l : Lot) : Prop := ∀ r ∈ l.steps, r.CountsAgree

/-- A change of a handler that keeps its post, its configuration and its kit. -/
def KeepsSetup (f : Handler → Handler) : Prop :=
  ∀ x, (f x).bound = x.bound ∧ (f x).docked = x.docked ∧ (f x).lock = x.lock ∧ (f x).config = x.config ∧ (f x).kit = x.kit

/-- A change of a tester in its staged slot alone. -/
def KeepsActive (f : Tester → Tester) : Prop :=
  ∀ x, (f x).docked = x.docked ∧ (f x).configured = x.configured ∧ (f x).active = x.active

/-- One change of those that the shared operations are made of: a mark; a handler's work; a staged slot; a pending count within
the uses remaining; a lot that keeps its slot and id, whose counts still agree and that is let go by its roles alone; the release
queue. -/
inductive Minor : State → State → Prop
  | mark (s : State) (i : StationId) (k : AttentionKind) (u : BitVec 16) : Minor s (s.updStation i (Station.mark k u))
  | markRoles (s : State) (rs : List Role) (k : AttentionKind) (u : BitVec 16) : Minor s (s.markRoles rs k u)
  | handler (s : State) (h : HandlerId) (f : Handler → Handler) (hf : KeepsSetup f) : Minor s (s.updHandler h f)
  | tester (s : State) (t : TesterId) (f : Tester → Tester) (hf : KeepsActive f) : Minor s (s.updTester t f)
  | pending (s : State) (d : DevId) (f : Nat → Nat) (hf : ∀ e ∈ s.deviations[d], f e.pending ≤ max e.pending e.remaining) :
      Minor s (s.updDeviation d (Option.map (fun e => { e with pending := f e.pending })))
  | lot (s : State) (k : Slot) (f : Lot → Lot) (hname : ∀ x, (f x).slot = x.slot ∧ (f x).id = x.id)
      (hcounts : ∀ x : Lot, x.CountsOk → (f x).CountsOk)
      (hlet : s.SlotsInOrder → ∀ x ∈ s.lots, x.slot = k → x.LetGo → (f x).LetGo) : Minor s (s.updLot k f)
  | releaseQueue (s : State) (q : List ReleaseRecord) : Minor s { s with releaseQueue := q }

/-- A chain of minor changes. -/
abbrev Minors : State → State → Prop := Relation.ReflTransGen Minor

theorem Minors.refl (s : State) : Minors s s := Relation.ReflTransGen.refl

theorem Minor.one {s t : State} (h : Minor s t) : Minors s t := Relation.ReflTransGen.single h

/-! ### Lots whose counts agree, and lots that are not let go -/

/-- A lot that keeps its step records keeps their counts. -/
theorem Lot.CountsOk.congr {l m : Lot} (h : l.CountsOk) (hpast : m.past = l.past) (hcur : m.cur = l.cur) : m.CountsOk := by
  unfold Lot.CountsOk Lot.steps at *
  rwa [hpast, hcur]

/-- A lot whose current step alone changes keeps its counts where that step does. -/
theorem Lot.CountsOk.of_cur {l m : Lot} (h : l.CountsOk) (hpast : m.past = l.past)
    (hcur : l.cur.CountsAgree → m.cur.CountsAgree) : m.CountsOk := by
  unfold Lot.CountsOk Lot.steps at *
  rw [hpast]
  intro r hr
  rcases List.mem_append.1 hr with hr | hr
  · exact h r (List.mem_append.2 (.inl hr))
  · rw [List.mem_singleton.1 hr]
    exact hcur (h _ (List.mem_append.2 (.inr (List.mem_singleton.2 rfl))))

/-- A lot is on its way: neither RELEASED nor waiting for release. -/
def LotState.OnTheWay (x : LotState) : Prop := x ≠ .released ∧ x.waiting? = none

theorem LotState.OnTheWay.not_letGo {x : LotState} (h : x.OnTheWay) : ¬ (x = .released ∨ x.waiting?.isSome = true) := by
  rintro (hr | hw)
  · exact h.1 hr
  · rw [h.2] at hw
    exact absurd hw (by decide)

/-- A lot that is on its way with the entries it had needs no role covered. -/
theorem Lot.LetGo.onTheWay {l m : Lot} (h : l.LetGo) (hstate : m.state.OnTheWay) (he : m.endorsements = l.endorsements) :
    m.LetGo := by
  obtain ⟨hstations, hroles, -⟩ := h
  unfold Lot.LetGo
  rw [he]
  exact ⟨hstations, hroles, fun hgo => absurd hgo hstate.not_letGo⟩

/-- A lot that is on its way without entries. -/
theorem Lot.LetGo.emptied {m : Lot} (hstate : m.state.OnTheWay) (he : m.endorsements = []) : m.LetGo := by
  unfold Lot.LetGo
  rw [he]
  exact ⟨List.nodup_nil, List.nodup_nil, fun hgo => absurd hgo hstate.not_letGo⟩

/-- A lot that keeps state, entries and flags is let go as it was. -/
theorem Lot.LetGo.congr {l m : Lot} (h : l.LetGo) (hstate : m.state = l.state) (he : m.endorsements = l.endorsements)
    (hd : m.deviationUsed = l.deviationUsed) (hw : m.waiver = l.waiver) : m.LetGo := by
  unfold Lot.LetGo Lot.missingRoles Lot.requiredRoles Lot.needsEngineering at *
  rwa [hstate, he, hd, hw]

/-! ### Elementary chains -/

variable (s : State)

theorem minors_markBound (h : HandlerId) (k : AttentionKind) (u : BitVec 16) : Minors s (s.markBound h k u) := by
  unfold State.markBound
  split
  · exact (Minor.mark s _ k u).one
  · exact .refl s

theorem minors_markRoles (rs : List Role) (k : AttentionKind) (u : BitVec 16) : Minors s (s.markRoles rs k u) :=
  (Minor.markRoles s rs k u).one

theorem minors_markComplete (l : Lot) : Minors s (s.markComplete l) := by
  unfold State.markComplete
  split
  · exact minors_markRoles s _ _ _
  · exact minors_markRoles s _ _ _

theorem minors_markStagingFault (t : TesterId) : Minors s (s.markStagingFault t) := by
  unfold State.markStagingFault
  split
  · exact (minors_markBound s _ _ _).trans (minors_markRoles _ _ _ _)
  · exact minors_markRoles s _ _ _

theorem minors_updHandler (h : HandlerId) {f : Handler → Handler} (hf : KeepsSetup f) : Minors s (s.updHandler h f) :=
  (Minor.handler s h f hf).one

theorem minors_updTester (t : TesterId) {f : Tester → Tester} (hf : KeepsActive f) : Minors s (s.updTester t f) :=
  (Minor.tester s t f hf).one

/-- A pending count that falls. -/
theorem minors_lowerPending (d : Option DevId) : Minors s (s.updPending d (fun n => n - 1)) := by
  unfold State.updPending
  split
  · next i =>
    refine (Minor.pending s i (fun n => n - 1) (fun e _ => ?_)).one
    omega
  · exact .refl s

/-- A pending count that rises within the uses remaining. -/
theorem minors_raisePending {r : Resolved} (hcapacity : s.hasCapacity r = true) :
    Minors s (s.updPending r.deviation (fun n => n + 1)) := by
  unfold State.updPending
  split
  · next i hi =>
    refine (Minor.pending s i (fun n => n + 1) (fun e he => ?_)).one
    have he : s.deviations[i] = some e := he
    simp only [State.hasCapacity, hi, he, Option.any_some, decide_eq_true_eq] at hcapacity
    omega
  · exact .refl s

/-- A lot put in a state on its way. -/
theorem minors_setLotState (k : Slot) {x : LotState} (hx : x.OnTheWay) : Minors s (s.setLotState k x) :=
  (Minor.lot s k (fun l => { l with state := x }) (fun _ => ⟨rfl, rfl⟩) (fun _ h => h.congr rfl rfl)
    (fun _ _ _ _ h => h.onTheWay hx rfl)).one

/-- A lot put in a state on its way with its endorsements emptied. -/
theorem minors_emptied (k : Slot) {x : LotState} (hx : x.OnTheWay) :
    Minors s (s.updLot k (fun l => { l with state := x, endorsements := [] })) :=
  (Minor.lot s k (fun l => { l with state := x, endorsements := [] }) (fun _ => ⟨rfl, rfl⟩) (fun _ h => h.congr rfl rfl)
    (fun _ _ _ _ _ => .emptied hx rfl)).one

/-- The current step of a lot changed, its counts agreeing as before. -/
theorem minors_updCur (k : Slot) {f : StepRecord → StepRecord} (hf : ∀ r, r.CountsAgree → (f r).CountsAgree) :
    Minors s (s.updLot k (fun l => { l with cur := f l.cur })) :=
  (Minor.lot s k (fun l => { l with cur := f l.cur }) (fun _ => ⟨rfl, rfl⟩) (fun _ h => h.of_cur rfl (hf _))
    (fun _ _ _ _ h => h.congr rfl rfl rfl rfl)).one

/-- A chain, and then a mark for a handler's bound station. -/
theorem Minors.mark {s t : State} (e : Minors s t) {h : HandlerId} {k : AttentionKind} {u : BitVec 16} :
    Minors s (t.markBound h k u) :=
  e.trans (minors_markBound t h k u)

/-! ### Readiness, setup and loads -/

theorem minors_readyCheck (h : HandlerId) : Minors s (s.readyCheck h) := by
  unfold State.readyCheck
  split
  · split
    · exact .mark (minors_updHandler s h (by intro; exact ⟨rfl, rfl, rfl, rfl, rfl⟩))
    · exact .refl s
  · split
    · exact .refl s
    · exact minors_updHandler s h (by intro; exact ⟨rfl, rfl, rfl, rfl, rfl⟩)
  · exact .refl s

theorem minors_applySetup (h : HandlerId) (k : Slot) : Minors s (s.applySetup h k) := by
  unfold State.applySetup
  split
  · exact .refl s
  · dsimp only
    have mark : ∀ (u : State) (a : AttentionKind) (c : Prop) [Decidable c], Minors s u →
        Minors s (if c then u.markBound h a (unitBit h) else u) := fun u a c _ hu => by
      split
      · exact hu.trans (minors_markBound u _ _ _)
      · exact hu
    exact mark _ _ _ (mark _ _ _ (minors_updHandler s h (by intro; exact ⟨rfl, rfl, rfl, rfl, rfl⟩)))

theorem minors_startLoad (t : TesterId) (p : Program) (n : Nat) : Minors s (s.startLoad t p n) := by
  unfold State.startLoad
  split
  · exact .refl s
  · dsimp only
    split
    · exact .mark (minors_updTester s t (by intro; exact ⟨rfl, rfl, rfl⟩))
    · exact minors_updTester s t (by intro; exact ⟨rfl, rfl, rfl⟩)

theorem minors_beginStaging (t : TesterId) (p : Program) : Minors s (s.beginStaging t p) := by
  unfold State.beginStaging
  split
  · exact .refl s
  · split
    · split
      · split
        · exact minors_updTester s t (by intro; exact ⟨rfl, rfl, rfl⟩)
        · exact .refl s
      · exact minors_startLoad s t p 1
    · exact minors_startLoad s t p 1

/-! ### Reservations -/

theorem minors_cancelReservation (k : Slot) (held : Bool) : Minors s (s.cancelReservation k held) := by
  unfold State.cancelReservation
  split
  · exact .refl s
  · split
    · next w h r _ =>
      have hstate : (if held = true then LotState.held else .queued w).OnTheWay := by
        split
        · exact ⟨by simp, rfl⟩
        · exact ⟨by simp, rfl⟩
      exact .mark (((minors_lowerPending s r.deviation).trans (minors_setLotState _ k hstate)).trans
        (minors_updHandler _ h (by intro; exact ⟨rfl, rfl, rfl, rfl, rfl⟩)))
    · exact .refl s

theorem State.hasCapacity_congr {s t : State} (h : t.deviations = s.deviations) (r : Resolved) :
    t.hasCapacity r = s.hasCapacity r := by
  unfold State.hasCapacity
  rw [h]

theorem minors_reserve (h : HandlerId) {l : Lot} (hcapacity : s.hasCapacity (s.resolve l) = true) :
    Minors s (s.reserve h l) := by
  unfold State.reserve
  split
  · next w _ =>
    dsimp only
    have base : Minors s (((s.setLotState l.slot (.reserved w h (s.resolve l))).updPending (s.resolve l).deviation
        (fun n => n + 1)).updHandler h (fun x => { x with cell := x.cell.takeReserved l.slot })) :=
      ((minors_setLotState s l.slot ⟨by simp, rfl⟩).trans
        (minors_raisePending (s.setLotState l.slot (.reserved w h (s.resolve l)))
          ((State.hasCapacity_congr rfl _).trans hcapacity))).trans
        (minors_updHandler _ h (by intro; exact ⟨rfl, rfl, rfl, rfl, rfl⟩))
    have fin : ∀ s2, Minors s s2 →
        Minors s (if s.handlers[h].cell.current.isSome then s2 else (s2.applySetup h l.slot).readyCheck h) := by
      intro s2 h2
      split
      · exact h2
      · exact (h2.trans (minors_applySetup _ _ _)).trans (minors_readyCheck _ _)
    apply fin
    split
    · exact base.trans (minors_beginStaging _ _ _)
    · exact base
  · exact .refl s

theorem minors_afterLoad (t : TesterId) : Minors s (s.afterLoad t) := by
  unfold State.afterLoad
  split
  · exact .refl s
  · split
    · exact .refl s
    · split
      · exact minors_readyCheck s _
      · split
        · split
          · split
            · exact minors_startLoad s _ _ _
            · exact minors_cancelReservation s _ _
          · exact minors_startLoad s _ _ _
        · exact minors_startLoad s _ _ _

theorem minors_loadEnded (t : TesterId) : Minors s (s.loadEnded t) := by
  unfold State.loadEnded
  split
  · exact (minors_markStagingFault s t).trans (minors_afterLoad _ t)
  · exact minors_afterLoad s t

/-! ### Release and holds -/

/-- A lot that waits for release, or whose required roles are covered, can be let go. -/
theorem minors_release {l : Lot} (hl : s.SlotsInOrder → ∀ x ∈ s.lots, x.slot = l.slot → x.LetGo → x.missingRoles = []) :
    Minors s (s.release l) := by
  refine Relation.ReflTransGen.trans ((Minor.releaseQueue s (s.releaseQueue ++ [s.releaseRecord l])).one.trans ?_)
    (minors_markRoles _ _ _ _)
  refine (Minor.lot _ l.slot (fun x => { x with state := .released }) (fun _ => ⟨rfl, rfl⟩) (fun _ h => h.congr rfl rfl)
    (fun hs x hx hslot hgo => ?_)).one
  have hmissing := hl hs x hx hslot hgo
  exact ⟨hgo.1, hgo.2.1, fun _ => hmissing⟩

theorem State.mem_waitingList {s : State} {l : Lot} (h : l ∈ s.waitingList) :
    l ∈ s.lots ∧ l.state.waiting?.isSome = true := by
  unfold State.waitingList at h
  rw [List.mem_insertionSort, List.mem_filter] at h
  exact h

theorem minors_offerPlace : Minors s s.offerPlace := by
  unfold State.offerPlace
  split
  · next l rest hlist =>
    obtain ⟨hmem, hwaits⟩ := State.mem_waitingList (s := s) (l := l) (by rw [hlist]; exact List.mem_cons_self)
    refine minors_release s (fun hs x hx hslot hgo => ?_)
    have hxl : x = l := hs.eq_of_slot hx hmem hslot
    exact hgo.2.2 (.inr (hxl ▸ hwaits))
  · exact .refl s

theorem minors_recall (k : Slot) : Minors s (s.recall k) :=
  ((Minor.releaseQueue s (s.releaseQueue.filter (fun r => r.slot ≠ k))).one.trans
    (minors_emptied (s.dropRecord k) k ⟨by simp, rfl⟩)).trans (minors_offerPlace _)

theorem minors_addHold (k : Slot) (r : HoldReason) (who : Option StationId) (gs : BitVec 4) :
    Minors s (s.addHold k r who gs).1 := by
  unfold State.addHold
  split
  · exact .refl s
  · split
    · exact .refl s
    · exact ((Minor.lot s k (fun l => { l with holds := insertHold ⟨r, s.floorTime, who, gs⟩ l.holds })
        (fun _ => ⟨rfl, rfl⟩) (fun _ h => h.congr rfl rfl) (fun _ _ _ _ h => h.congr rfl rfl rfl rfl)).one).trans
        (minors_markRoles _ _ _ _)

theorem minors_addHoldIf (c : Bool) (k : Slot) (r : HoldReason) : Minors s (s.addHoldIf c k r).1 := by
  unfold State.addHoldIf
  split
  · exact minors_addHold s k r none 0
  · exact .refl s

theorem minors_startDrain (k : Slot) (h : HandlerId) (p : Resolved) (r : HoldReason) : Minors s (s.startDrain k h p r) :=
  .mark ((minors_setLotState s k ⟨by simp, rfl⟩).trans
    (minors_updHandler _ h (by intro; exact ⟨rfl, rfl, rfl, rfl, rfl⟩)))

theorem minors_placeHold (k : Slot) (r : HoldReason) (who : Option StationId) (gs : BitVec 4) :
    Minors s (s.placeHold k r who gs).1 := by
  unfold State.placeHold
  split
  · exact .refl s
  · split
    · exact .refl s
    · dsimp only
      refine (minors_addHold s k r who gs).trans ?_
      generalize (s.addHold k r who gs).1 = u
      split
      · exact minors_setLotState u k ⟨by simp, rfl⟩
      · exact minors_cancelReservation u k true
      · exact minors_startDrain u k _ _ r
      · exact Minors.refl u
      · exact Minors.refl u
      · exact minors_emptied u k ⟨by simp, rfl⟩
      · exact minors_recall u k
      · exact Minors.refl u

theorem minors_holdThermal (h : HandlerId) : Minors s (s.holdThermal h) := by
  unfold State.holdThermal
  split
  · exact minors_placeHold s _ _ _ _
  · exact minors_readyCheck s h

/-! ### Folds -/

theorem minors_foldl {α : Type} {f : State → α → State} (hf : ∀ u a, Minors u (f u a)) (xs : List α) :
    Minors s (xs.foldl f s) :=
  foldl_keeps (Minors s) f (fun u a h => h.trans (hf u a)) xs s (.refl s)

theorem minors_placeInterrupted : Minors s s.placeInterrupted := minors_foldl s (fun u _ => minors_addHold u _ _ _ _) _

theorem minors_cancelAll (p : Program) : Minors s (s.cancelAll p) :=
  minors_foldl s (fun u _ => minors_cancelReservation u _ _) _

theorem minors_holdRunning (p : Program) (t : TesterId) : Minors s (State.holdRunning p s t) := by
  unfold State.holdRunning
  split
  · exact .refl s
  · split
    · exact .refl s
    · split
      · exact .refl s
      · split
        · exact minors_placeHold s _ _ _ _
        · exact .refl s

theorem minors_readyCheckAt (t : TesterId) : Minors s (s.readyCheckAt t) := by
  unfold State.readyCheckAt
  split
  · exact minors_readyCheck s _
  · exact .refl s

/-- A withdrawal is made of minor changes but for the slots of the testers, in the middle of it. -/
theorem minors_applyWithdrawal (p : Program) :
    Minors s (s.cancelAll p) ∧
    Minors { s.cancelAll p with testers := vecMap (Tester.withdraw p) (s.cancelAll p).testers } (s.applyWithdrawal p) := by
  refine ⟨minors_cancelAll s p, ?_⟩
  unfold State.applyWithdrawal
  dsimp only
  refine Relation.ReflTransGen.trans (Relation.ReflTransGen.trans ?_ (minors_foldl _ minors_loadEnded _))
    (minors_foldl _ minors_readyCheckAt _)
  exact minors_foldl _ (fun u t => minors_holdRunning u p t) _

/-! ### The ways of a lot -/

/-- Ending a step's runs, closing it, or setting its armed flag leaves its counts. -/
theorem StepRecord.CountsAgree.congr {r q : StepRecord} (h : r.CountsAgree) (hg : q.good = r.good) (hf : q.fails = r.fails)
    (ht : q.tested = r.tested) : q.CountsAgree := by
  unfold StepRecord.CountsAgree at *
  rwa [hg, hf, ht]

/-- A step just opened has counted nothing. -/
theorem StepRecord.opened_countsAgree (n : Nat) : (StepRecord.opened n).CountsAgree :=
  ⟨rfl, Nat.zero_le _⟩

theorem minors_endRunOf (k : Slot) : Minors s (s.endRunOf k) :=
  minors_updCur s k (f := fun r => { r with runs := endRun s.floorTime r.runs }) (fun _ h => h.congr rfl rfl rfl)

theorem minors_heldFromDrain (k : Slot) : Minors s (s.heldFromDrain k) :=
  (minors_endRunOf s k).trans (minors_setLotState _ k ⟨by simp, rfl⟩)

theorem minors_closeStep (l : Lot) : Minors s (s.closeStep l).1 :=
  ((minors_addHoldIf s _ _ _).trans (minors_addHoldIf _ _ _ _)).trans
    (minors_updCur _ l.slot (f := StepRecord.close s.floorTime) (fun _ h => h.congr rfl rfl rfl))

/-- A lot whose next step is opened: every step closed before keeps its counts. -/
theorem Lot.openNext_countsOk {l : Lot} (h : l.CountsOk) : l.openNext.CountsOk := by
  intro r hr
  unfold Lot.openNext Lot.steps at hr
  rcases List.mem_append.1 hr with hr | hr
  · exact h r hr
  · rw [List.mem_singleton.1 hr]
    exact StepRecord.opened_countsAgree _

theorem minors_openNext (k : Slot) : Minors s (s.updLot k Lot.openNext) :=
  (Minor.lot s k Lot.openNext (fun _ => ⟨rfl, rfl⟩) (fun _ h => Lot.openNext_countsOk h)
    (fun _ _ _ _ h => h.congr rfl rfl rfl rfl)).one

/-- A queue entry is a minor change of the lot, and the next stamp. -/
theorem minors_enterQueue (k : Slot) : ∃ u, Minors s u ∧ s.enterQueue k = { u with stampCounter := nextStamp s.stampCounter } :=
  ⟨_, (Minor.lot s k (fun l => { l with state := .queued ⟨nextStamp s.stampCounter, 0, freshCountdown (s.stepOf l)⟩ })
    (fun _ => ⟨rfl, rfl⟩) (fun _ h => h.congr rfl rfl) (fun _ _ _ _ h => h.onTheWay ⟨by simp, rfl⟩ rfl)).one, rfl⟩

/-- Where a handler goes that its lot leaves, once its guard's run has ended. -/
theorem minors_leaveHandler (h : HandlerId) : Minors { s with guards := s.guards.set h none } (s.leaveHandler h) := by
  unfold State.leaveHandler
  dsimp only
  split
  · refine Relation.ReflTransGen.trans (Relation.ReflTransGen.trans ?_ (minors_applySetup _ _ _)) (minors_readyCheck _ _)
    exact minors_updHandler _ h (by intro; exact ⟨rfl, rfl, rfl, rfl, rfl⟩)
  · exact minors_updHandler _ h (by intro; exact ⟨rfl, rfl, rfl, rfl, rfl⟩)

/-! ### The lots that a selection chooses -/

/-- The lot chosen so far, or one of those looked at after it. -/
theorem foldl_firstBy_mem {lt : Lot → Lot → Bool} {xs : List Lot} {a : Option Lot} {l : Lot}
    (h : xs.foldl (firstBy lt) a = some l) : a = some l ∨ l ∈ xs := by
  induction xs generalizing a with
  | nil => exact .inl h
  | cons x xs ih =>
    rcases ih h with hx | hx
    · unfold firstBy at hx
      split at hx
      · exact .inr (List.mem_cons.2 (.inl (Option.some.inj hx).symm))
      · split at hx
        · exact .inr (List.mem_cons.2 (.inl (Option.some.inj hx).symm))
        · exact .inl hx
    · exact .inr (List.mem_cons_of_mem _ hx)

theorem State.select_candidate {s : State} {h : HandlerId} {l : Lot} {c : Choice} (e : s.select h = some (l, c)) :
    l ∈ s.lots ∧ s.eligible h l = true := by
  have hmem : l ∈ s.candidates h := by
    unfold State.select at e
    split at e
    · next x hx =>
      cases e
      rcases foldl_firstBy_mem hx with hn | hm
      · cases hn
      · exact List.mem_of_mem_filter hm
    · split at e
      · next x hx =>
        cases e
        rcases foldl_firstBy_mem hx with hn | hm
        · cases hn
        · exact hm
      · cases e
  exact List.mem_filter.1 hmem

/-- What the selection requires of the lot it chooses. -/
theorem State.eligible_iff (s : State) (h : HandlerId) (l : Lot) : s.eligible h l = true ↔
    l.isQueued = true ∧ l.holds = [] ∧ s.handlers[h].capable (classOf (s.stepOf l).setpoint) = true ∧
      s.isReleased (s.resolve l).program = true ∧ s.hasCapacity (s.resolve l) = true ∧ s.handlers[h].sites ≠ 0 := by
  simp only [State.eligible, Bool.and_eq_true, List.isEmpty_iff, decide_eq_true_eq, and_assoc]

theorem State.select_hasCapacity {s : State} {h : HandlerId} {l : Lot} {c : Choice} (e : s.select h = some (l, c)) :
    s.hasCapacity (s.resolve l) = true := by
  obtain ⟨-, -, -, -, hcapacity, -⟩ := (s.eligible_iff h l).1 (State.select_candidate e).2
  exact hcapacity

theorem minors_lookahead (h : HandlerId) : Minors s (s.lookahead h).1 := by
  unfold State.lookahead
  split
  · split
    · next hselect => exact minors_reserve s h (State.select_hasCapacity hselect)
    · exact .refl s
  · exact .refl s

/-! ### Expiries -/

theorem Lot.stopCountdown_name (l : Lot) : l.stopCountdown.slot = l.slot ∧ l.stopCountdown.id = l.id := by
  unfold Lot.stopCountdown
  split <;> exact ⟨rfl, rfl⟩

theorem Lot.stopCountdown_countsOk {l : Lot} (h : l.CountsOk) : l.stopCountdown.CountsOk := by
  unfold Lot.stopCountdown
  split
  · exact h.congr rfl rfl
  · exact h.congr rfl rfl
  · exact h

theorem Lot.stopCountdown_letGo {l : Lot} (h : l.LetGo) : l.stopCountdown.LetGo := by
  unfold Lot.stopCountdown
  split
  · exact h.onTheWay ⟨by simp, rfl⟩ rfl
  · exact h.onTheWay ⟨by simp, rfl⟩ rfl
  · exact h

theorem minors_queueTimeExpiry (k : Slot) : Minors s (s.queueTimeExpiry k) := by
  unfold State.queueTimeExpiry
  split
  · split
    · exact ((Minor.lot s k Lot.stopCountdown Lot.stopCountdown_name (fun _ => Lot.stopCountdown_countsOk)
        (fun _ _ _ _ => Lot.stopCountdown_letGo)).one).trans (minors_placeHold _ _ _ _ _)
    · exact .refl s
  · exact .refl s

theorem minors_soakExpiry (h : HandlerId) : Minors s (s.soakExpiry h) := by
  unfold State.soakExpiry
  split
  · refine Relation.ReflTransGen.trans ?_ (minors_readyCheck _ _)
    exact minors_updHandler s h (by intro; exact ⟨rfl, rfl, rfl, rfl, rfl⟩)
  · exact .refl s

theorem minors_deadlineExpiry (t : TesterId) : Minors s (s.deadlineExpiry t) := by
  unfold State.deadlineExpiry
  split
  · split
    · refine Relation.ReflTransGen.trans ?_ (minors_loadEnded _ _)
      exact minors_updTester s t (by intro; exact ⟨rfl, rfl, rfl⟩)
    · exact .refl s
  · exact .refl s

theorem minors_stallExpiry (h : HandlerId) : Minors s (s.stallExpiry h) := by
  unfold State.stallExpiry
  split
  · refine Relation.ReflTransGen.trans ?_ (minors_markRoles _ _ _ _)
    exact Minors.mark (minors_updHandler s h (by intro; exact ⟨rfl, rfl, rfl, rfl, rfl⟩))
  · exact .refl s

end Sys2Proof.Machine
end

section
/-! SUPPORT. The changes of an accepted request: minor changes, and the writes that belong to its kind alone (`Own`). -/

namespace Sys2Proof.Machine

/-! ### A kind's own writes -/

/-- A write that the shared operations do not make, by the kinds of request that make it. -/
inductive Own : Kind → State → State → Prop
  | enroll (s : State) (i : StationId) (rs : RoleSet) (new : Option HandlerId) (hfirst : i ≠ 0) (hroles : rs ≠ 0)
      (hfree : s.boundElsewhere i new = false) :
      Own .stationEnroll s ((s.bind i s.stations[i].bound new).updStation i (Station.enroll rs new))
  | remove (s : State) (i : StationId) (hfirst : i ≠ 0) :
      Own .stationRemove s ((s.bind i s.stations[i].bound none).updStation i (fun _ => Station.initial))
  | readAttention (s : State) (i : StationId) : Own .attentionRead s (s.updStation i (fun x => { x with attention := [] }))
  | mask (s : State) (i : StationId) (kinds : BitVec 16) (henrolled : s.stations[i].enrolled = true) :
      Own .attentionMask s (s.updStation i (fun x =>
        { x with mask := maskFor s.stations[i].roles kinds
                 attention := x.attention.filter (fun m => (maskFor s.stations[i].roles kinds).has m.kind) }))
  | base (k : Kind) (s : State) (ps : Vector ProductEntry 64) (ls : Vector (Option LibraryEntry) 128) (x : Settings) (f : Time)
      (hk : k ∈ [.timeSet, .dispatchConfig, .productDefine, .productRemove, .programDefine, .programWithdraw, .programRemove]) :
      Own k s { s with products := ps, library := ls, settings := x, floorTime := f }
  | register (s : State) (k : Slot) (id : Text) (p : ProductIx) (quantity priority : Nat) (hfree : s.freeSlot? = some k) :
      Own .lotRegister s (s.addLot (newLot k id p quantity priority))
  | drop (k : Kind) (s : State) (j : Slot) (hk : k ∈ [.lotPurge, .shipCollect]) : Own k s (s.dropLot j)
  | config (k : Kind) (s : State) (h : HandlerId) (f : Option HandlerConfig → Option HandlerConfig)
      (hk : k ∈ [.handlerConfig, .siteEnable, .touchdown]) : Own k s (s.updHandler h (fun x => { x with config := f x.config }))
  | kit (s : State) (h : HandlerId) (n : Option Nat) : Own .kitInstalled s (s.updHandler h (fun x => { x with kit := n }))
  | dock (s : State) (h : HandlerId) (t : TesterId) (hh : s.handlers[h].docked = none) (ht : s.testers[t].docked = none) :
      Own .dock s ((s.updHandler h (fun x => { x with docked := some t })).updTester t (fun x => { x with docked := some h }))
  | undock (s : State) (h : HandlerId) (t : TesterId) (hdocked : s.handlers[h].docked = some t) :
      Own .undock s ((s.updHandler h (fun x => { x with docked := none })).updTester t (fun x => { x with docked := none }))
  | lock (k : Kind) (s : State) (h : HandlerId) (o : Option StationId) (hk : k ∈ [.handlerLock, .handlerUnlock]) :
      Own k s (s.updHandler h (fun x => { x with lock := o }))
  | tester (s : State) (t : TesterId) (f : Tester → Tester) (hf : ∀ x, (f x).docked = x.docked) :
      Own .testerConfig s (s.updTester t f)
  | swap (s : State) (t : TesterId) (p : Program) : Own .lotBegin s (s.updTester t (Tester.swapTo p))
  | withdraw (s : State) (p : Program) : Own .programWithdraw s { s with testers := vecMap (Tester.withdraw p) s.testers }
  | setDeviation (s : State) (d : DevId) (e : Deviation) (hfree : s.deviations[d] = none) (hpending : e.pending = 0)
      (hremaining : 1 ≤ e.remaining) : Own .deviationSet s (s.updDeviation d (fun _ => some e))
  | clearDeviation (s : State) (d : DevId) : Own .deviationClear s (s.updDeviation d (fun _ => none))
  | useDeviation (s : State) (d : Option DevId) : Own .lotBegin s (s.useDeviation d)
  | guards (k : Kind) (s : State) (gs : Vector (Option GuardRun) 16)
      (hk : k ∈ [.lotBegin, .touchdown, .siteEnable, .lotEnd, .drained]) : Own k s { s with guards := gs }
  | stamp (k : Kind) (s : State) (hk : k ∈ [.lotRegister, .lotEnd, .lotDispose]) :
      Own k s { s with stampCounter := nextStamp s.stampCounter }
  | waitStamp (s : State) : Own .lotEndorse s { s with waitingCounter := nextStamp s.waitingCounter }

/-- The changes that a request of a kind is made of. -/
abbrev Changes (k : Kind) : State → State → Prop := Relation.ReflTransGen (fun s t => Minor s t ∨ Own k s t)

theorem Minors.changes {s t : State} (h : Minors s t) (k : Kind) : Changes k s t :=
  Relation.ReflTransGen.mono (fun _ _ => Or.inl) s t h

theorem Own.changes {k : Kind} {s t : State} (h : Own k s t) : Changes k s t := .single (.inr h)

/-- Own writes, and minor changes after them. -/
theorem Own.then {k : Kind} {s t u : State} (h : Own k s t) (m : Minors t u) : Changes k s u := h.changes.trans (Minors.changes m k)

/-! ### Queue entries, and the step that a lot leaves -/

theorem changes_enterQueue {k : Kind} (hk : k ∈ [.lotRegister, .lotEnd, .lotDispose]) (s : State) (j : Slot) :
    Changes k s (s.enterQueue j) := by
  have queued : Minors s (s.updLot j (fun l =>
      { l with state := .queued ⟨nextStamp s.stampCounter, 0, freshCountdown (s.stepOf l)⟩ })) :=
    (Minor.lot s j (fun l => { l with state := .queued ⟨nextStamp s.stampCounter, 0, freshCountdown (s.stepOf l)⟩ })
      (fun _ => ⟨rfl, rfl⟩) (fun _ h => h.congr rfl rfl) (fun _ _ _ _ h => h.onTheWay ⟨by simp, rfl⟩ rfl)).one
  exact (Minors.changes queued k).trans (Own.stamp k _ hk).changes

theorem changes_proceed {k : Kind} (hk : k ∈ [.lotRegister, .lotEnd, .lotDispose]) (s : State) (j : Slot) :
    Changes k s (s.proceed j) := by
  unfold State.proceed
  split
  · exact Relation.ReflTransGen.refl
  · split
    · exact (Minors.changes (minors_openNext s j) k).trans (changes_enterQueue hk _ j)
    · exact Minors.changes ((minors_setLotState s j (x := .complete none) ⟨by simp, rfl⟩).trans (minors_markComplete _ _)) k

theorem changes_afterClose {k : Kind} (hk : k ∈ [.lotRegister, .lotEnd, .lotDispose]) (s : State) (j : Slot) :
    Changes k s (s.afterClose j) := by
  unfold State.afterClose
  split
  · exact Relation.ReflTransGen.refl
  · split
    · exact changes_proceed hk s j
    · exact Minors.changes (minors_setLotState s j (x := .held) ⟨by simp, rfl⟩) k

theorem changes_afterContinue (s : State) (j : Slot) : Changes .lotDispose s (s.afterContinue j) := by
  unfold State.afterContinue
  split
  · exact Relation.ReflTransGen.refl
  · split
    · exact Relation.ReflTransGen.refl
    · split
      · exact changes_proceed (by decide) s j
      · split
        · exact changes_enterQueue (by decide) s j
        · exact Minors.changes (minors_addHold s j _ _ _) _

theorem changes_leaveHandler {k : Kind} (hk : k ∈ [.lotBegin, .touchdown, .siteEnable, .lotEnd, .drained]) (s : State)
    (h : HandlerId) : Changes k s (s.leaveHandler h) :=
  (Own.guards k s _ hk).then (minors_leaveHandler s h)

/-! ### The dispositions -/

/-- A HELD lot with a reason cleared, a step opened afresh, or scrapped, is on its way as it was. -/
theorem minors_updHeld {s : State} {l : Lot} (hl : l ∈ s.lots) (hheld : l.state = .held) {f : Lot → Lot}
    (hname : ∀ x, (f x).slot = x.slot ∧ (f x).id = x.id) (hcounts : ∀ x : Lot, x.CountsOk → (f x).CountsOk)
    (hstate : ∀ x : Lot, x.state = .held → (f x).state.OnTheWay) (he : ∀ x, (f x).endorsements = x.endorsements) :
    Minors s (s.updLot l.slot f) := by
  refine (Minor.lot s l.slot f hname hcounts (fun hs x hx hslot hgo => ?_)).one
  rw [hs.eq_of_slot hx hl hslot] at hgo ⊢
  exact hgo.onTheWay (hstate l hheld) (he l)

theorem Lot.clearHold_countsOk (r : HoldReason) {l : Lot} (h : l.CountsOk) : (l.clearHold r).CountsOk := by
  refine h.of_cur rfl (fun hcur => ?_)
  unfold Lot.clearHold
  dsimp only
  split
  · exact hcur.congr rfl rfl rfl
  · exact hcur

theorem Lot.rescreen_countsOk {l : Lot} (h : l.CountsOk) : l.rescreen.CountsOk :=
  h.of_cur rfl (fun _ => (StepRecord.opened_countsAgree l.cur.quantityIn).congr rfl rfl rfl)

theorem held_onTheWay : LotState.OnTheWay .held := ⟨by simp, rfl⟩

theorem changes_continueLot {s : State} {l : Lot} (hl : l ∈ s.lots) (hheld : l.state = .held) (r : HoldReason) :
    Changes .lotDispose s (s.continueLot l.slot r) :=
  (Minors.changes (minors_updHeld hl hheld (f := Lot.clearHold r) (fun _ => ⟨rfl, rfl⟩) (fun _ => Lot.clearHold_countsOk r)
    (fun _ h => h ▸ held_onTheWay) (fun _ => rfl)) _).trans (changes_afterContinue _ _)

theorem changes_rescreen {s : State} {l : Lot} (hl : l ∈ s.lots) (hheld : l.state = .held) :
    Changes .lotDispose s ((s.updLot l.slot Lot.rescreen).enterQueue l.slot) :=
  (Minors.changes (minors_updHeld hl hheld (f := Lot.rescreen) (fun _ => ⟨rfl, rfl⟩) (fun _ => Lot.rescreen_countsOk)
    (fun _ h => h ▸ held_onTheWay) (fun _ => rfl)) _).trans (changes_enterQueue (by decide) _ _)

theorem minors_scrap {s : State} {l : Lot} (hl : l ∈ s.lots) (hheld : l.state = .held) :
    Minors s (s.updLot l.slot Lot.scrap) :=
  minors_updHeld hl hheld (f := Lot.scrap) (fun _ => ⟨rfl, rfl⟩) (fun _ h => h.congr rfl rfl)
    (fun _ _ => ⟨by simp [Lot.scrap], rfl⟩) (fun _ => rfl)

/-! ### The begin of a lot, and its touchdowns -/

theorem changes_beginLot (s : State) (h : HandlerId) (t : TesterId) (l : Lot) (r : Resolved) :
    Changes .lotBegin s (s.beginLot h t l r).state := by
  refine ((Own.swap s t r.program).changes.trans (Own.useDeviation _ r.deviation).changes).trans ?_
  unfold State.beginLot accept
  dsimp only
  generalize (s.updTester t (Tester.swapTo r.program)).useDeviation r.deviation = u
  have hlot : Minors u (u.updLot l.slot (Lot.begin h r (s.newRun h t r))) :=
    (Minor.lot u l.slot (Lot.begin h r (s.newRun h t r)) (fun _ => ⟨rfl, rfl⟩)
      (fun _ hx => hx.of_cur rfl (fun hcur => hcur.congr rfl rfl rfl))
      (fun _ _ _ _ hx => hx.onTheWay ⟨by simp [Lot.begin], rfl⟩ rfl)).one
  have hhandler := minors_updHandler (u.updLot l.slot (Lot.begin h r (s.newRun h t r))) h (f := Handler.begin l.slot)
    (by intro; exact ⟨rfl, rfl, rfl, rfl, rfl⟩)
  exact (Minors.changes (hlot.trans hhandler) _).trans (Own.guards _ _ _ (by decide)).changes

theorem PerGroup.total_update_succ (p : PerGroup Nat) (g : BinGroup) : (p.update g (· + 1)).total = p.total + 1 := by
  cases g <;> simp only [PerGroup.update, PerGroup.total] <;> omega

/-- One unit counted is good or a fail of one group. -/
theorem StepRecord.countUnit_sum (st : RouteStep) (bin : Nat) (r : StepRecord) :
    (r.countUnit st bin).tested = r.tested + 1 ∧
      (r.countUnit st bin).good + (r.countUnit st bin).fails.total = r.good + r.fails.total + 1 := by
  unfold StepRecord.countUnit
  split
  · exact ⟨rfl, by dsimp only; omega⟩
  · exact ⟨rfl, by dsimp only; rw [PerGroup.total_update_succ]; omega⟩

theorem StepRecord.foldl_countUnit_sum (st : RouteStep) (us : List (SiteIx × Nat)) (r : StepRecord) :
    let q := us.foldl (fun r u => r.countUnit st u.2) r
    q.tested = r.tested + us.length ∧ q.good + q.fails.total = r.good + r.fails.total + us.length := by
  induction us generalizing r with
  | nil => exact ⟨rfl, rfl⟩
  | cons u us ih =>
    obtain ⟨htested, hsum⟩ := ih (r.countUnit st u.2)
    obtain ⟨h1, h2⟩ := r.countUnit_sum st u.2
    rw [List.foldl_cons, List.length_cons]
    exact ⟨by rw [htested, h1]; omega, by rw [hsum, h2]; omega⟩

/-- A touchdown's units keep the counts of a step in agreement and within their maximum (R112, R114). -/
theorem StepRecord.countUnits_countsAgree (st : RouteStep) (us : List (SiteIx × Nat)) {r : StepRecord} (h : r.CountsAgree) :
    (r.countUnits st us).CountsAgree := by
  have hmax : Config.unitMax = 16777215 := rfl
  unfold StepRecord.countUnits
  split
  · exact h.congr rfl rfl rfl
  · next hfits =>
    obtain ⟨hsum, htop⟩ := h
    obtain ⟨htested, hparts⟩ := StepRecord.foldl_countUnit_sum st us r
    simp only [saturates, decide_eq_true_eq, not_lt, hmax] at hfits
    exact ⟨by omega, by omega⟩

theorem changes_countTouchdown (s : State) (h : HandlerId) (l : Lot) (g : GuardRun) (index : BitVec 16) (n : Nat)
    (us : List (SiteIx × Nat)) : Changes .touchdown s (s.countTouchdown h l g index n us) :=
  (Minors.changes (minors_updCur s l.slot (f := fun r => (r.addGap n).countUnits (s.stepOf l) us)
    (fun r hr => StepRecord.countUnits_countsAgree _ us (r := r.addGap n) (hr.congr rfl rfl rfl))) _).trans
      (Own.guards _ _ _ (by decide)).changes

theorem minors_tripIf (b : Bool) (k : Slot) (r : HoldReason) (gs : BitVec 4) (c : Checked) :
    Minors c.state (c.tripIf b k r gs).state := by
  unfold Checked.tripIf
  split
  · exact minors_placeHold _ _ _ _ _
  · exact .refl _

theorem minors_rearmIf (b : Bool) (k : Slot) (c : Checked) : Minors c.state (c.rearmIf b k).state := by
  unfold Checked.rearmIf
  split
  · exact minors_updCur c.state k (f := fun r => { r with armed := true }) (fun _ h => h.congr rfl rfl rfl)
  · exact .refl _

theorem minors_holdChecks (s : State) (st : RouteStep) (k : Slot) (r : StepRecord) (ring : List Bool) :
    Minors s (holdChecks st k r ring s).state :=
  ((((minors_tripIf _ _ _ _ ⟨s, []⟩).trans (minors_tripIf _ _ _ _ _)).trans (minors_rearmIf _ _ _)).trans
    (minors_tripIf _ _ _ _ _)).trans (minors_tripIf _ _ _ _ _)

theorem changes_siteCheck (s : State) (st : RouteStep) (h : HandlerId) (sites : Vector SiteCount 8) :
    Changes .touchdown s (s.siteCheck st h sites).1 := by
  unfold State.siteCheck
  split
  · exact (Own.config _ s h _ (by decide)).then (minors_markBound _ _ _ _)
  · exact Relation.ReflTransGen.refl

theorem changes_checkTouchdown (s : State) (h : HandlerId) (k : Slot) :
    Changes .touchdown s (s.checkTouchdown h k).1.state := by
  unfold State.checkTouchdown
  split
  · exact (Minors.changes (minors_holdChecks s _ _ _ _) _).trans (changes_siteCheck _ _ _ _)
  · exact Relation.ReflTransGen.refl

theorem Handler.restartStall_keepsSetup : KeepsSetup Handler.restartStall := by
  intro x
  unfold Handler.restartStall
  split <;> exact ⟨rfl, rfl, rfl, rfl, rfl⟩

theorem changes_acceptTouchdown (s : State) (h : HandlerId) (l : Lot) (g : GuardRun) (index : BitVec 16) (n : Nat)
    (results : List Nat) : Changes .touchdown s (s.acceptTouchdown h l g index n results).state := by
  obtain ⟨u, hu, e⟩ := s.acceptTouchdown_state h l g index n results
  have counted := changes_countTouchdown s h l g index n (unitsOf results)
  have hsu : Changes .touchdown s u := by
    rcases hu with rfl | rfl
    · exact counted
    · exact counted.trans (changes_checkTouchdown _ h l.slot)
  rw [e]
  exact hsu.trans (Minors.changes ((minors_updHandler u h Handler.restartStall_keepsSetup).trans (minors_lookahead _ h)) _)

/-! ### Endorsements -/

/-- An entry of a station and a role that the list does not name keeps a lot let go by its roles. -/
theorem Lot.endorse_letGo {l : Lot} {e : Endorsement} (hstation : l.endorsedBy e.station = false)
    (hrole : l.endorsedIn e.role = false) (h : l.LetGo) : (l.endorse e).LetGo := by
  obtain ⟨hstations, hroles, hgo⟩ := h
  simp only [Lot.endorsedBy, List.any_eq_false, decide_eq_true_eq] at hstation
  simp only [Lot.endorsedIn, List.any_eq_false, decide_eq_true_eq] at hrole
  refine ⟨?_, ?_, fun hl => ?_⟩
  · simp only [Lot.endorse, List.map_append, List.map_cons, List.map_nil]
    refine List.nodup_append.2 ⟨hstations, List.nodup_singleton _, fun a ha b hb => ?_⟩
    obtain ⟨x, hx, rfl⟩ := List.mem_map.1 ha
    rw [List.mem_singleton.1 hb]
    exact hstation x hx
  · simp only [Lot.endorse, List.map_append, List.map_cons, List.map_nil]
    refine List.nodup_append.2 ⟨hroles, List.nodup_singleton _, fun a ha b hb => ?_⟩
    obtain ⟨x, hx, rfl⟩ := List.mem_map.1 ha
    rw [List.mem_singleton.1 hb]
    exact hrole x hx
  · have hnone := hgo hl
    simp only [Lot.missingRoles, List.filter_eq_nil_iff] at hnone ⊢
    intro r hr
    have := hnone r hr
    simp only [Lot.endorse, List.any_append]
    simp_all

theorem changes_endorse {s : State} {l : Lot} {e : Endorsement} (hl : l ∈ s.lots) (hstation : l.endorsedBy e.station = false)
    (hrole : l.endorsedIn e.role = false) : Changes .lotEndorse s (s.endorse l e).state := by
  have entered : Minors s (s.updLot l.slot (Lot.endorse e)) :=
    (Minor.lot s l.slot (Lot.endorse e) (fun _ => ⟨rfl, rfl⟩) (fun _ h => h.congr rfl rfl)
      (fun hs x hx hslot hgo => by
        rw [hs.eq_of_slot hx hl hslot] at hgo ⊢
        exact Lot.endorse_letGo hstation hrole hgo)).one
  have covered : (l.endorse e).missingRoles.isEmpty = true →
      (s.updLot l.slot (Lot.endorse e)).SlotsInOrder → ∀ x ∈ (s.updLot l.slot (Lot.endorse e)).lots,
        x.slot = l.slot → x.missingRoles = [] := by
    intro hempty hs x hx hslot
    have hmem : l.endorse e ∈ (s.updLot l.slot (Lot.endorse e)).lots := List.mem_map.2 ⟨l, hl, if_pos rfl⟩
    rw [hs.eq_of_slot hx hmem hslot]
    exact List.isEmpty_iff.1 hempty
  unfold State.endorse State.lastEndorsement
  dsimp only
  split
  · next hempty =>
    split
    · exact Minors.changes (entered.trans (minors_release _ (l := l.endorse e) (fun hs x hx hslot _ => covered hempty hs x hx hslot))) .lotEndorse
    · refine (Minors.changes (entered.trans (Minor.one (Minor.lot _ l.slot
        (fun x => { x with state := .complete (some (nextStamp s.waitingCounter)) }) (fun _ => ⟨rfl, rfl⟩)
        (fun _ h => h.congr rfl rfl) (fun hs x hx hslot hgo => ?_)))) _).trans (Own.waitStamp _).changes
      have hmissing := covered hempty hs x hx hslot
      exact ⟨hgo.1, hgo.2.1, fun _ => hmissing⟩
  · exact Minors.changes entered _

theorem Lot.withdraw_letGo {l : Lot} (i : StationId) (h : l.LetGo) : (l.withdraw i).LetGo := by
  obtain ⟨hstations, hroles, -⟩ := h
  refine ⟨hstations.sublist ((List.filter_sublist).map _), hroles.sublist ((List.filter_sublist).map _), fun hgo => ?_⟩
  exact absurd hgo (LotState.OnTheWay.not_letGo ⟨by simp [Lot.withdraw], rfl⟩)

/-! ### Every accepted request -/

/-- An accepted request is a chain of minor changes and of its kind's own writes. -/
theorem Work.changes {k : Kind} {s t : State} (w : Work k s t) : Changes k s t := by
  cases w with
  | same => exact Relation.ReflTransGen.refl
  | stationEnroll _ i rs new hfirst hroles hfree => exact (Own.enroll s i rs new hfirst hroles hfree).changes
  | stationRemove _ i hfirst => exact (Own.remove s i hfirst).changes
  | attentionRead _ i => exact (Own.readAttention s i).changes
  | attentionMask _ i kinds henrolled => exact (Own.mask s i kinds henrolled).changes
  | timeSet => exact (Own.base _ s _ _ _ _ (by decide)).changes
  | lotRegister _ j id p quantity priority hfree =>
    exact (Own.register s j id p quantity priority hfree).changes.trans (changes_enterQueue (by decide) _ j)
  | lotPurge _ l => exact (Own.drop _ s l.slot (by decide)).changes
  | lotEnd _ h l =>
    exact ((Minors.changes (minors_closeStep s l) _).trans (changes_afterClose (by decide) _ _)).trans
      (changes_leaveHandler (by decide) _ h)
  | productDefine => exact (Own.base _ s _ _ _ _ (by decide)).changes
  | productRemove => exact (Own.base _ s _ _ _ _ (by decide)).changes
  | programDefine => exact (Own.base _ s _ _ _ _ (by decide)).changes
  | programWithdraw _ i e p =>
    obtain ⟨before, after⟩ := minors_applyWithdrawal (s.setLibrary i e) p
    exact ((Own.base _ s _ _ _ _ (by decide)).then before).trans ((Own.withdraw _ p).then after)
  | programRemove => exact (Own.base _ s _ _ _ _ (by decide)).changes
  | callWork _ h l c _ hselect => exact Minors.changes (minors_reserve s h (State.select_hasCapacity hselect)) _
  | lotBegin _ h t l r => exact changes_beginLot s h t l r
  | lotPriority _ j priority =>
    exact Minors.changes (Minor.one (Minor.lot s j (fun l => { l with priority := priority }) (fun _ => ⟨rfl, rfl⟩)
      (fun _ h => h.congr rfl rfl) (fun _ _ _ _ h => h.congr rfl rfl rfl rfl))) _
  | dispatchConfig => exact (Own.base _ s _ _ _ _ (by decide)).changes
  | handlerConfig _ h c => exact (Own.config _ s h (fun _ => some c) (by decide)).changes
  | handlerOnline _ h => exact Minors.changes (minors_updHandler s h (by intro; exact ⟨rfl, rfl, rfl, rfl, rfl⟩)) _
  | offlineIdle _ h => exact Minors.changes (minors_updHandler s h (by intro; exact ⟨rfl, rfl, rfl, rfl, rfl⟩)) _
  | offlineReserved _ h j =>
    exact Minors.changes ((minors_cancelReservation s j false).trans
      (minors_updHandler _ h (f := Handler.goOffline) (by intro; exact ⟨rfl, rfl, rfl, rfl, rfl⟩))) _
  | dock _ h t hh ht => exact (Own.dock s h t hh ht).changes
  | undock _ h t hdocked => exact (Own.undock s h t hdocked).changes
  | kitInstalled _ h n => exact (Own.kit s h n).then (minors_readyCheck _ h)
  | tempReached _ h goal =>
    refine Minors.changes (Relation.ReflTransGen.trans (minors_updHandler s h ?_) (minors_readyCheck _ h)) _
    intro x
    unfold Handler.reach
    split <;> exact ⟨rfl, rfl, rfl, rfl, rfl⟩
  | tempLost _ h =>
    refine Minors.changes (Relation.ReflTransGen.trans ?_ (minors_holdThermal _ h)) _
    exact minors_updHandler s h (by intro; exact ⟨rfl, rfl, rfl, rfl, rfl⟩)
  | handlerLock _ h i => exact (Own.lock _ s h _ (by decide)).changes
  | handlerUnlock _ h => exact (Own.lock _ s h _ (by decide)).changes
  | testerEnable _ t => exact (Own.tester s t _ (by intro; rfl)).changes
  | testerDisable _ t => exact (Own.tester s t _ (by intro; rfl)).changes
  | testerClear _ t => exact (Own.tester s t _ (by intro; rfl)).changes
  | stageProgram _ t p => exact Minors.changes (minors_startLoad s t p 1) _
  | programLoaded _ t g =>
    refine Minors.changes (Relation.ReflTransGen.trans ?_ (minors_loadEnded _ t)) _
    exact minors_updTester s t (by intro; exact ⟨rfl, rfl, rfl⟩)
  | abortReserved _ t j =>
    refine Minors.changes (Relation.ReflTransGen.trans (Relation.ReflTransGen.trans ?_ (minors_cancelReservation _ j false))
      (minors_loadEnded _ t)) _
    exact minors_updTester s t (by intro; exact ⟨rfl, rfl, rfl⟩)
  | abortFree _ t =>
    refine Minors.changes (Relation.ReflTransGen.trans ?_ (minors_loadEnded _ t)) _
    exact minors_updTester s t (by intro; exact ⟨rfl, rfl, rfl⟩)
  | deviationSet _ d e hfree hpending hremaining => exact (Own.setDeviation s d e hfree hpending hremaining).changes
  | deviationClear _ d => exact (Own.clearDeviation s d).changes
  | touchdown _ h l g index n results => exact changes_acceptTouchdown s h l g index n results
  | siteEnable _ h c i => exact (Own.config _ s h (fun _ => _) (by decide)).changes.trans (Own.guards _ _ _ (by decide)).changes
  | lotHold _ l i => exact Minors.changes (minors_placeHold s _ _ _ _) _
  | disposeContinue _ l r hl hheld => exact changes_continueLot hl hheld r
  | disposeRescreen _ l hl hheld => exact changes_rescreen hl hheld
  | disposeScrap _ l hl hheld => exact Minors.changes (minors_scrap hl hheld) _
  | drained _ h l => exact (Minors.changes (minors_heldFromDrain s l.slot) _).trans (changes_leaveHandler (by decide) _ h)
  | lotEndorse _ l e hl _ hstation hrole => exact changes_endorse hl hstation hrole
  | endorseWithdraw _ l i =>
    exact Minors.changes (Minor.one (Minor.lot s l.slot (Lot.withdraw i) (fun _ => ⟨rfl, rfl⟩) (fun _ h => h.congr rfl rfl)
      (fun _ _ _ _ h => Lot.withdraw_letGo i h))) _
  | shipCollect _ l =>
    exact ((Minors.changes (Minor.releaseQueue s _).one _).trans
      (Own.drop _ (s.dropRecord l.slot) l.slot (by decide)).changes).trans (Minors.changes (minors_offerPlace _) _)

end Sys2Proof.Machine
end

section
/-! SUPPORT. A condition that minor changes, the kinds' own writes and the sweeps of tick and reset keep is kept by every step. -/

namespace Sys2Proof.Machine

/-! ### Sweeps -/

/-- A change of a whole table, as a tick or a line reset makes it. -/
inductive Sweep : State → State → Prop
  | lots (s : State) (f : Lot → Lot) (hname : ∀ x, (f x).slot = x.slot ∧ (f x).id = x.id)
      (hcounts : ∀ x : Lot, x.CountsOk → (f x).CountsOk) (hlet : ∀ x : Lot, x.LetGo → (f x).LetGo) :
      Sweep s { s with lots := s.lots.map f }
  | handlers (s : State) (f : Handler → Handler) (hf : KeepsSetup f) : Sweep s { s with handlers := vecMap f s.handlers }
  | testers (s : State) (f : Tester → Tester) (hf : KeepsActive f) : Sweep s { s with testers := vecMap f s.testers }
  | pending (s : State) : Sweep s { s with deviations := vecMap (Option.map (fun d => { d with pending := 0 })) s.deviations }
  | guards (s : State) (gs : Vector (Option GuardRun) 16) : Sweep s { s with guards := gs }
  | frame (s : State) (f : Time) (d : Nat) (k : Link) (c : ResetCause) (n : Nat) (b : Bool) (q : List Instr) :
      Sweep s { s with floorTime := f, divider := d, link := k, resetCause := c, lineResets := n, inReset := b, pending := q }

/-- A condition that every change keeps, and that holds at power-on. -/
structure Kept (P : State → Prop) : Prop where
  minor : ∀ {s t}, Minor s t → P s → P t
  own : ∀ {k s t}, Own k s t → P s → P t
  sweep : ∀ {s t}, Sweep s t → P s → P t
  reset : P State.reset

theorem Kept.minors {P : State → Prop} (hP : Kept P) {s t : State} (h : Minors s t) (hs : P s) : P t := by
  induction h with
  | refl => exact hs
  | tail _ hbc ih => exact hP.minor hbc ih

theorem Kept.work {P : State → Prop} (hP : Kept P) {k : Kind} {s t : State} (h : Work k s t) (hs : P s) : P t := by
  have hchanges := h.changes
  clear h
  induction hchanges with
  | refl => exact hs
  | tail _ hbc ih => exact hbc.elim (hP.minor · ih) (hP.own · ih)

/-! ### The tick and the line reset -/

theorem Lot.tick_name (l : Lot) : l.tick.slot = l.slot ∧ l.tick.id = l.id := by
  unfold Lot.tick
  split <;> exact ⟨rfl, rfl⟩

theorem Lot.tick_countsOk {l : Lot} (h : l.CountsOk) : l.tick.CountsOk := by
  unfold Lot.tick
  split
  · exact h.congr rfl rfl
  · exact h.congr rfl rfl
  · exact h

theorem Lot.tick_letGo {l : Lot} (h : l.LetGo) : l.tick.LetGo := by
  unfold Lot.tick
  split
  · exact h.onTheWay ⟨by simp, rfl⟩ rfl
  · exact h.onTheWay ⟨by simp, rfl⟩ rfl
  · exact h

theorem Lot.afterLineReset_name (t : Time) (l : Lot) : (l.afterLineReset t).slot = l.slot ∧ (l.afterLineReset t).id = l.id := by
  unfold Lot.afterLineReset
  split <;> exact ⟨rfl, rfl⟩

theorem Lot.afterLineReset_countsOk (t : Time) {l : Lot} (h : l.CountsOk) : (l.afterLineReset t).CountsOk := by
  unfold Lot.afterLineReset
  split
  · exact h.of_cur rfl (·.congr rfl rfl rfl)
  · exact h.of_cur rfl (·.congr rfl rfl rfl)
  · exact h.congr rfl rfl
  · exact h

theorem Lot.afterLineReset_letGo (t : Time) {l : Lot} (h : l.LetGo) : (l.afterLineReset t).LetGo := by
  unfold Lot.afterLineReset
  split
  · exact h.onTheWay ⟨by simp, rfl⟩ rfl
  · exact h.onTheWay ⟨by simp, rfl⟩ rfl
  · exact h.onTheWay ⟨by simp, rfl⟩ rfl
  · exact h

theorem Kept.tick {P : State → Prop} (hP : Kept P) {s : State} (hs : P s) : P s.tick := by
  have h1 := hP.sweep (.lots s Lot.tick Lot.tick_name (fun _ => Lot.tick_countsOk) (fun _ => Lot.tick_letGo)) hs
  have h2 := hP.sweep (.handlers _ Handler.tick (by intro; exact ⟨rfl, rfl, rfl, rfl, rfl⟩)) h1
  have h3 := hP.sweep (.testers _ (fun t => { t with staged := t.staged.map Staged.tick })
    (by intro; exact ⟨rfl, rfl, rfl⟩)) h2
  exact hP.sweep (.frame _ (s.floorTime + 1) 0 s.link s.resetCause s.lineResets s.inReset s.pending) h3

theorem Kept.lineReset {P : State → Prop} (hP : Kept P) {s : State} (hs : P s) : P s.lineReset := by
  have h0 := hP.minors (minors_placeInterrupted s) hs
  have h1 := hP.sweep (.lots _ (Lot.afterLineReset s.floorTime) (Lot.afterLineReset_name _)
    (fun _ => Lot.afterLineReset_countsOk _) (fun _ => Lot.afterLineReset_letGo _)) h0
  have h2 := hP.sweep (.handlers _ Handler.afterLineReset (by intro; exact ⟨rfl, rfl, rfl, rfl, rfl⟩)) h1
  have h3 := hP.sweep (.testers _ (fun t => { t with staged := none }) (by intro; exact ⟨rfl, rfl, rfl⟩)) h2
  have h4 := hP.sweep (.guards _ (Vector.replicate 16 none)) (hP.sweep (.pending _) h3)
  exact hP.sweep (.frame _ s.placeInterrupted.floorTime s.placeInterrupted.divider s.placeInterrupted.link.afterLineReset .line
    (holdAt Config.lineResetMax (s.placeInterrupted.lineResets + 1)) true s.placeInterrupted.pending) h4

theorem Kept.effect {P : State → Prop} (hP : Kept P) {c : Instr} {s t : State} (h : Effect c s t) (hs : P s) : P t := by
  have link : ∀ {u : State} (k : Link), P u → P { u with link := k } := fun {u} k hu =>
    hP.sweep (.frame u u.floorTime u.divider k u.resetCause u.lineResets u.inReset u.pending) hu
  cases h with
  | nothing => exact hs
  | answered _ k m r b _ u _ _ hrefused haccepted =>
    have htaken : P s.taken := link _ hs
    have hu : P u := by
      by_cases hok : r = .ok
      · exact hP.work (haccepted hok) htaken
      · rw [hrefused hok]; exact htaken
    exact link _ hu
  | link _ _ k => exact link k hs
  | powerOn a b =>
    exact hP.sweep (.frame State.reset 0 0 { State.reset.link with bitRate := bitRateOf a b } .powerOn 0 false s.pending) hP.reset
  | lineReset => exact hP.lineReset hs
  | release a b =>
    have hmarked := hP.minor (.markRoles s Role.all .partReset 0) hs
    exact hP.sweep (.frame _ s.floorTime 0 { s.link with bitRate := bitRateOf a b } s.resetCause s.lineResets false s.pending)
      hmarked
  | tick => exact hP.tick hs
  | queueTime k => exact hP.minors (minors_queueTimeExpiry s k) hs
  | soak h => exact hP.minors (minors_soakExpiry s h) hs
  | deadline u => exact hP.minors (minors_deadlineExpiry s u) hs
  | stall h => exact hP.minors (minors_stallExpiry s h) hs

/-- A step runs no command, or one in the state whose queue has lost it. -/
theorem step_cases {s t : State} (h : step s = .next t) :
    t = s ∨ ∃ c rest, s.pending = c :: rest ∧ exec c { s with pending := rest } = .next t := by
  unfold step at h
  split at h
  · cases h; exact .inl rfl
  · next c rest hpending => exact .inr ⟨c, rest, hpending, h⟩

theorem Kept.step {P : State → Prop} (hP : Kept P) {s t : State} (h : step s = .next t) (hs : P s) : P t := by
  rcases step_cases h with rfl | ⟨c, rest, -, hexec⟩
  · exact hs
  · exact hP.effect (exec_effect hexec)
      (hP.sweep (.frame s s.floorTime s.divider s.link s.resetCause s.lineResets s.inReset rest) hs)

/-! ### What a kind's requests leave of handlers, testers and stations -/

/-- What a request of a kind leaves of a handler. -/
structure Kind.KeepsHandler (k : Kind) (x y : Handler) : Prop where
  docked : k ∉ [.dock, .undock] → y.docked = x.docked
  lock : k ∉ [.handlerLock, .handlerUnlock] → y.lock = x.lock
  bound : k ∉ [.stationEnroll, .stationRemove] → y.bound = x.bound
  config : k ∉ [.handlerConfig, .siteEnable, .touchdown] → y.config = x.config
  kit : k ∉ [.kitInstalled] → y.kit = x.kit

/-- What a request of a kind leaves of a tester. -/
structure Kind.KeepsTester (k : Kind) (x y : Tester) : Prop where
  docked : k ∉ [.dock, .undock] → y.docked = x.docked
  configured : k ∉ [.testerConfig] → y.configured = x.configured
  active : k ∉ [.testerConfig, .lotBegin, .programWithdraw] → y.active = x.active

/-- What a request of a kind leaves of a station. -/
structure Kind.KeepsStation (k : Kind) (x y : Station) : Prop where
  enrolled : k ∉ [.stationEnroll, .stationRemove] → y.enrolled = x.enrolled
  bound : k ∉ [.stationEnroll, .stationRemove] → y.bound = x.bound
  roles : k ∉ [.stationEnroll, .stationRemove] → y.roles = x.roles
  mask : k ∉ [.stationEnroll, .stationRemove, .attentionMask] → y.mask = x.mask

/-- What a request of a kind leaves of the floor's handlers, testers and stations. -/
structure Kind.KeepsPosts (k : Kind) (s t : State) : Prop where
  handlers : ∀ h : HandlerId, k.KeepsHandler s.handlers[h] t.handlers[h]
  testers : ∀ u : TesterId, k.KeepsTester s.testers[u] t.testers[u]
  stations : ∀ i : StationId, k.KeepsStation s.stations[i] t.stations[i]

section
variable (k : Kind)

theorem Kind.KeepsHandler.refl (x : Handler) : k.KeepsHandler x x := ⟨fun _ => rfl, fun _ => rfl, fun _ => rfl, fun _ => rfl, fun _ => rfl⟩
theorem Kind.KeepsTester.refl (x : Tester) : k.KeepsTester x x := ⟨fun _ => rfl, fun _ => rfl, fun _ => rfl⟩
theorem Kind.KeepsStation.refl (x : Station) : k.KeepsStation x x := ⟨fun _ => rfl, fun _ => rfl, fun _ => rfl, fun _ => rfl⟩

theorem Kind.KeepsPosts.of_tables {s t : State} (hh : t.handlers = s.handlers) (ht : t.testers = s.testers)
    (hs : t.stations = s.stations) : k.KeepsPosts s t :=
  ⟨fun h => by rw [hh]; exact .refl k _, fun u => by rw [ht]; exact .refl k _, fun i => by rw [hs]; exact .refl k _⟩

theorem Kind.KeepsPosts.trans {s t u : State} (a : k.KeepsPosts s t) (b : k.KeepsPosts t u) : k.KeepsPosts s u where
  handlers h := {
    docked hk := ((b.handlers h).docked hk).trans ((a.handlers h).docked hk)
    lock hk := ((b.handlers h).lock hk).trans ((a.handlers h).lock hk)
    bound hk := ((b.handlers h).bound hk).trans ((a.handlers h).bound hk)
    config hk := ((b.handlers h).config hk).trans ((a.handlers h).config hk)
    kit hk := ((b.handlers h).kit hk).trans ((a.handlers h).kit hk) }
  testers v := {
    docked hk := ((b.testers v).docked hk).trans ((a.testers v).docked hk)
    configured hk := ((b.testers v).configured hk).trans ((a.testers v).configured hk)
    active hk := ((b.testers v).active hk).trans ((a.testers v).active hk) }
  stations i := {
    enrolled hk := ((b.stations i).enrolled hk).trans ((a.stations i).enrolled hk)
    bound hk := ((b.stations i).bound hk).trans ((a.stations i).bound hk)
    roles hk := ((b.stations i).roles hk).trans ((a.stations i).roles hk)
    mask hk := ((b.stations i).mask hk).trans ((a.stations i).mask hk) }

theorem Kind.KeepsPosts.updHandler (s : State) (h : HandlerId) {f : Handler → Handler}
    (hf : k.KeepsHandler s.handlers[h] (f s.handlers[h])) : k.KeepsPosts s (s.updHandler h f) := by
  refine ⟨fun g => ?_, fun _ => .refl k _, fun _ => .refl k _⟩
  rw [State.updHandler_handlers, set_getElem_fin]
  split
  · next e => subst e; exact hf
  · exact .refl k _

theorem Kind.KeepsPosts.updTester (s : State) (u : TesterId) {f : Tester → Tester}
    (hf : k.KeepsTester s.testers[u] (f s.testers[u])) : k.KeepsPosts s (s.updTester u f) := by
  refine ⟨fun _ => .refl k _, fun v => ?_, fun _ => .refl k _⟩
  rw [State.updTester_testers, set_getElem_fin]
  split
  · next e => subst e; exact hf
  · exact .refl k _

theorem Kind.KeepsPosts.updStation (s : State) (i : StationId) {f : Station → Station}
    (hf : k.KeepsStation s.stations[i] (f s.stations[i])) : k.KeepsPosts s (s.updStation i f) := by
  refine ⟨fun _ => .refl k _, fun _ => .refl k _, fun j => ?_⟩
  rw [State.updStation_stations, set_getElem_fin]
  split
  · next e => subst e; exact hf
  · exact .refl k _

theorem KeepsSetup.keepsHandler {f : Handler → Handler} (hf : KeepsSetup f) (x : Handler) : k.KeepsHandler x (f x) := by
  obtain ⟨hbound, hdocked, hlock, hconfig, hkit⟩ := hf x
  exact ⟨fun _ => hdocked, fun _ => hlock, fun _ => hbound, fun _ => hconfig, fun _ => hkit⟩

theorem KeepsActive.keepsTester {f : Tester → Tester} (hf : KeepsActive f) (x : Tester) : k.KeepsTester x (f x) := by
  obtain ⟨hdocked, hconfigured, hactive⟩ := hf x
  exact ⟨fun _ => hdocked, fun _ => hconfigured, fun _ => hactive⟩

theorem Station.mark_keepsStation (a : AttentionKind) (u : BitVec 16) (x : Station) : k.KeepsStation x (x.mark a u) :=
  ⟨fun _ => by simp, fun _ => by simp, fun _ => by simp, fun _ => by simp⟩

theorem Minor.keepsPosts {s t : State} (h : Minor s t) : k.KeepsPosts s t := by
  cases h with
  | mark i a u => exact .updStation k _ _ (Station.mark_keepsStation k _ _ _)
  | markRoles rs a u =>
    refine ⟨fun _ => .refl k _, fun _ => .refl k _, fun i => ?_⟩
    rw [State.markRoles_stations, vecMap_getElem_fin]
    split
    · exact Station.mark_keepsStation k _ _ _
    · exact .refl k _
  | handler h f hf => exact .updHandler k _ _ (hf.keepsHandler k _)
  | tester u f hf => exact .updTester k _ _ (hf.keepsTester k _)
  | pending | lot | releaseQueue => exact .of_tables k rfl rfl rfl

theorem Sweep.keepsPosts {s t : State} (h : Sweep s t) : k.KeepsPosts s t := by
  cases h with
  | handlers f hf =>
    exact ⟨fun h => by rw [vecMap_getElem_fin]; exact hf.keepsHandler k _, fun _ => .refl k _, fun _ => .refl k _⟩
  | testers f hf =>
    exact ⟨fun _ => .refl k _, fun u => by rw [vecMap_getElem_fin]; exact hf.keepsTester k _, fun _ => .refl k _⟩
  | lots | pending | guards | frame => exact .of_tables k rfl rfl rfl

end

/-- A binding writes the bound station of handlers alone. -/
theorem State.bind_keepsPosts {k : Kind} (hk : k ∈ [.stationEnroll, .stationRemove]) (s : State) (i : StationId)
    (old new : Option HandlerId) : k.KeepsPosts s (s.bind i old new) := by
  have bound : ∀ (u : State) (h : HandlerId) (b : Option StationId),
      k.KeepsPosts u (u.updHandler h (fun x => { x with bound := b })) := fun u h b =>
    .updHandler k u h ⟨fun _ => rfl, fun _ => rfl, fun hn => absurd hk hn, fun _ => rfl, fun _ => rfl⟩
  unfold State.bind
  cases old <;> cases new
  · exact .of_tables k rfl rfl rfl
  · exact bound s _ _
  · exact bound s _ _
  · exact (bound s _ _).trans k (bound _ _ _)

theorem Tester.swapTo_post (p : Program) (x : Tester) :
    (x.swapTo p).docked = x.docked ∧ (x.swapTo p).configured = x.configured := by
  unfold Tester.swapTo
  split
  · exact ⟨rfl, rfl⟩
  · split
    · exact ⟨rfl, rfl⟩
    · exact ⟨rfl, rfl⟩

theorem Own.keepsPosts {k : Kind} {s t : State} (h : Own k s t) : k.KeepsPosts s t := by
  cases h with
  | enroll _ i rs new =>
    exact (State.bind_keepsPosts (by decide) s i _ _).trans _ (.updStation _ _ _ ⟨by simp, by simp, by simp, by simp⟩)
  | remove _ i =>
    exact (State.bind_keepsPosts (by decide) s i _ _).trans _ (.updStation _ _ _ ⟨by simp, by simp, by simp, by simp⟩)
  | readAttention _ i => exact .updStation _ _ _ ⟨fun _ => rfl, fun _ => rfl, fun _ => rfl, fun _ => rfl⟩
  | mask _ i => exact .updStation _ _ _ ⟨fun _ => rfl, fun _ => rfl, fun _ => rfl, by simp⟩
  | config _ _ h f hk =>
    exact .updHandler _ _ _ ⟨fun _ => rfl, fun _ => rfl, fun _ => rfl, fun hn => absurd hk hn, fun _ => rfl⟩
  | kit _ h => exact .updHandler _ _ _ ⟨fun _ => rfl, fun _ => rfl, fun _ => rfl, fun _ => rfl, by simp⟩
  | dock _ h u =>
    exact (Kind.KeepsPosts.updHandler _ _ _ ⟨by simp, fun _ => rfl, fun _ => rfl, fun _ => rfl, fun _ => rfl⟩).trans _
      (.updTester _ _ _ ⟨by simp, fun _ => rfl, fun _ => rfl⟩)
  | undock _ h u =>
    exact (Kind.KeepsPosts.updHandler _ _ _ ⟨by simp, fun _ => rfl, fun _ => rfl, fun _ => rfl, fun _ => rfl⟩).trans _
      (.updTester _ _ _ ⟨by simp, fun _ => rfl, fun _ => rfl⟩)
  | lock _ _ h o hk =>
    exact .updHandler _ _ _ ⟨fun _ => rfl, fun hn => absurd hk hn, fun _ => rfl, fun _ => rfl, fun _ => rfl⟩
  | tester _ u f hf => exact .updTester _ _ _ ⟨fun _ => hf _, by simp, by simp⟩
  | swap _ u p => exact .updTester _ _ _ ⟨fun _ => (Tester.swapTo_post p _).1, fun _ => (Tester.swapTo_post p _).2, by simp⟩
  | withdraw _ p =>
    refine ⟨fun _ => .refl _ _, fun u => ?_, fun _ => .refl _ _⟩
    rw [vecMap_getElem_fin]
    exact ⟨fun _ => rfl, fun _ => rfl, by simp⟩
  | useDeviation _ d =>
    unfold State.useDeviation
    split
    · exact .of_tables _ rfl rfl rfl
    · exact .of_tables _ rfl rfl rfl
  | base | register | drop | setDeviation | clearDeviation | guards | stamp | waitStamp => exact .of_tables _ rfl rfl rfl

end Sys2Proof.Machine
end

section
/-! SUPPORT. The conditions that every step keeps, but for those of a consistent floor: mirrors, stations, counts, uses of
deviations, and lots let go. -/

namespace Sys2Proof.Machine

/-! ### Docking and binding -/

theorem Kind.KeepsPosts.dockingMutual {k : Kind} {s t : State} (h : k.KeepsPosts s t) (hk : k ∉ [.dock, .undock])
    (hs : s.DockingMutual) : t.DockingMutual := fun g u => by
  rw [(h.handlers g).docked hk, (h.testers u).docked hk]
  exact hs g u

theorem Kind.KeepsPosts.bindingMutual {k : Kind} {s t : State} (h : k.KeepsPosts s t) (hk : k ∉ [.stationEnroll, .stationRemove])
    (hs : s.BindingMutual) : t.BindingMutual := fun i g => by
  rw [(h.stations i).bound hk, (h.handlers g).bound hk]
  exact hs i g

/-- A handler and a tester that are both free, docked to each other. -/
theorem dock_mutual {s : State} {h : HandlerId} {u : TesterId} (hh : s.handlers[h].docked = none)
    (hu : s.testers[u].docked = none) (hs : s.DockingMutual) :
    ((s.updHandler h (fun x => { x with docked := some u })).updTester u (fun x => { x with docked := some h })).DockingMutual := by
  intro g v
  have hgv := hs g v
  have hv' := hs h v
  have hg' := hs g u
  rw [hh] at hv'
  rw [hu] at hg'
  simp only [State.updTester_handlers, State.updHandler_handlers, State.updTester_testers, State.updHandler_testers,
    set_getElem_fin]
  by_cases hg : h = g <;> by_cases hv : u = v
  · subst hg hv; simp
  · subst hg; simpa [hv] using hv'
  · subst hv; simpa [hg] using hg'
  · simpa only [if_neg hg, if_neg hv] using hgv

/-- A handler and its tester, taken apart. -/
theorem undock_mutual {s : State} {h : HandlerId} {u : TesterId} (hdocked : s.handlers[h].docked = some u)
    (hs : s.DockingMutual) :
    ((s.updHandler h (fun x => { x with docked := none })).updTester u (fun x => { x with docked := none })).DockingMutual := by
  intro g v
  have hu := (hs h u).1 hdocked
  have hgv := hs g v
  have hv' := hs h v
  have hg' := hs g u
  rw [hdocked] at hv'
  rw [hu] at hg'
  simp only [State.updTester_handlers, State.updHandler_handlers, State.updTester_testers, State.updHandler_testers,
    set_getElem_fin]
  by_cases hg : h = g <;> by_cases hv : u = v
  · subst hg hv; simp
  · subst hg; simpa [hv] using hv'
  · subst hv; simpa [hg] using hg'
  · simpa only [if_neg hg, if_neg hv] using hgv

theorem Own.keeps_docking {k : Kind} {s t : State} (h : Own k s t) (hs : s.DockingMutual) : t.DockingMutual := by
  by_cases hk : k ∈ [.dock, .undock]
  · cases h with
    | dock _ h u hh hu => exact dock_mutual hh hu hs
    | undock _ h u hdocked => exact undock_mutual hdocked hs
    | base | register | drop | setDeviation | clearDeviation | guards | stamp | waitStamp => exact hs
    | _ => grind
  · exact h.keepsPosts.dockingMutual hk hs

theorem dockingMutual_kept : Kept State.DockingMutual where
  minor h := (h.keepsPosts .partStatus).dockingMutual (by decide)
  own h := h.keeps_docking
  sweep h := (h.keepsPosts .partStatus).dockingMutual (by decide)
  reset := by
    intro h u
    simp [State.reset, Handler.initial, Tester.initial]

/-- The handlers' bound stations after a binding. -/
theorem State.bind_bound (s : State) (i : StationId) (old new : Option HandlerId) (h : HandlerId) :
    (s.bind i old new).handlers[h].bound =
      if new = some h then some i else if old = some h then none else s.handlers[h].bound := by
  unfold State.bind
  cases old <;> cases new <;> simp only [State.updHandler_handlers, set_getElem_fin, Option.some.injEq, reduceCtorEq, if_false]
  · split <;> rfl
  · split <;> rfl
  · next a b =>
    by_cases hb : b = h
    · simp [hb]
    · by_cases ha : a = h <;> simp [ha, hb]

theorem State.bind_stations (s : State) (i : StationId) (old new : Option HandlerId) : (s.bind i old new).stations = s.stations := by
  obtain ⟨hs, e⟩ := s.bind_frame i old new
  rw [e]

/-- A station bound to a handler that no other station has, in both records. -/
theorem bind_mutual {s : State} {i : StationId} {new : Option HandlerId} (hfree : s.boundElsewhere i new = false)
    {f : Station → Station} (hf : ∀ x, (f x).bound = new) (hs : s.BindingMutual) :
    ((s.bind i s.stations[i].bound new).updStation i f).BindingMutual := by
  intro j h
  have hih := hs i h
  have hjh := hs j h
  have hother : new = some h → s.stations[j].bound = some h → j = i := by
    rintro rfl hj
    simpa [State.boundElsewhere, hjh.1 hj, -Fin.getElem_fin] using hfree
  rw [State.updStation_stations, State.updStation_handlers, State.bind_stations, State.bind_bound, set_getElem_fin]
  by_cases hij : i = j
  · subst hij
    rw [if_pos rfl, hf]
    by_cases hnew : new = some h
    · rw [if_pos hnew]
      exact iff_of_true hnew rfl
    · rw [if_neg hnew]
      refine iff_of_false hnew ?_
      split
      · nofun
      · next hold => exact fun hb => hold (hih.2 hb)
  · rw [if_neg hij]
    by_cases hnew : new = some h
    · rw [if_pos hnew]
      exact iff_of_false (fun hj => hij (hother hnew hj).symm) (fun hi => hij (Option.some.inj hi))
    · rw [if_neg hnew]
      split
      · next hold =>
        exact iff_of_false (fun hj => hij (Option.some.inj ((hih.1 hold).symm.trans (hjh.1 hj)))) nofun
      · exact hjh

theorem Own.keeps_binding {k : Kind} {s t : State} (h : Own k s t) (hs : s.BindingMutual) : t.BindingMutual := by
  by_cases hk : k ∈ [.stationEnroll, .stationRemove]
  · cases h with
    | enroll _ i rs new _ _ hfree => exact bind_mutual hfree (fun _ => rfl) hs
    | remove _ i => exact bind_mutual rfl (fun _ => rfl) hs
    | base | register | drop | setDeviation | clearDeviation | guards | stamp | waitStamp => exact hs
    | _ => grind
  · exact h.keepsPosts.bindingMutual hk hs

theorem bindingMutual_kept : Kept State.BindingMutual where
  minor h := (h.keepsPosts .partStatus).bindingMutual (by decide)
  own h := h.keeps_binding
  sweep h := (h.keepsPosts .partStatus).bindingMutual (by decide)
  reset := by
    intro i h
    have hstation : ((Vector.replicate 31 Station.initial).set 0 Station.first)[i].bound = none := by
      rw [Fin.getElem_fin, Vector.getElem_set]
      split <;> simp [Station.first, Station.initial]
    simp only [State.reset, hstation]
    simp [Handler.initial]

/-- Settles O56: docking and binding are written in both records at once, by their own requests alone. -/
theorem stepKeepsMirrors : Obligations.StepKeepsMirrors :=
  fun _ _ h => ⟨dockingMutual_kept.step h, bindingMutual_kept.step h⟩

/-! ### Station 1 -/

theorem Kind.KeepsPosts.firstStation {k : Kind} {s t : State} (h : k.KeepsPosts s t) (hk : k ∉ [.stationEnroll, .stationRemove])
    (hs : s.FirstStation) : t.FirstStation := by
  obtain ⟨henrolled, hroles, hbound⟩ := hs
  have h0 := h.stations 0
  exact ⟨(h0.enrolled hk).trans henrolled, (h0.roles hk).trans hroles, (h0.bound hk).trans hbound⟩

theorem Own.keeps_firstStation {k : Kind} {s t : State} (h : Own k s t) (hs : s.FirstStation) : t.FirstStation := by
  have other : ∀ (i : StationId) (b : Option HandlerId) (f : Station → Station), i ≠ 0 →
      ((s.bind i s.stations[i].bound b).updStation i f).FirstStation := by
    intro i b f hi
    unfold State.FirstStation
    rw [State.updStation_stations, State.bind_stations, set_getElem_ne _ hi]
    exact hs
  by_cases hk : k ∈ [.stationEnroll, .stationRemove]
  · cases h with
    | enroll _ i rs new hfirst => exact other i new _ hfirst
    | remove _ i hfirst => exact other i none _ hfirst
    | base | register | drop | setDeviation | clearDeviation | guards | stamp | waitStamp => exact hs
    | _ => grind
  · exact h.keepsPosts.firstStation hk hs

theorem firstStation_kept : Kept State.FirstStation where
  minor h := (h.keepsPosts .partStatus).firstStation (by decide)
  own h := h.keeps_firstStation
  sweep h := (h.keepsPosts .partStatus).firstStation (by decide)
  reset := ⟨rfl, rfl, rfl⟩

/-! ### Marks -/

theorem AttentionKind.all_code (k : AttentionKind) : AttentionKind.all[k.code]? = some k := by cases k <;> rfl

theorem AttentionKind.code_injective {a b : AttentionKind} (h : a.code = b.code) : a = b :=
  Option.some.inj (by rw [← a.all_code, ← b.all_code, h])

theorem AttentionKind.code_lt (k : AttentionKind) : k.code < 13 := by cases k <;> decide

theorem AttentionKind.mem_all (k : AttentionKind) : k ∈ AttentionKind.all := List.mem_of_getElem? k.all_code

theorem KindSet.has_foldl (ks : List AttentionKind) (m : KindSet) (k : AttentionKind) :
    KindSet.has (ks.foldl (fun m k => m ||| (1 <<< k.code : BitVec 13)) m) k = (m.has k || decide (k ∈ ks)) := by
  induction ks generalizing m with
  | nil => simp
  | cons a ks ih =>
    have hk := k.code_lt
    have hbit : KindSet.has (m ||| (1 <<< a.code : BitVec 13)) k = (m.has k || decide (k = a)) := by
      have hcode : (k = a) ↔ k.code = a.code := ⟨fun h => h ▸ rfl, AttentionKind.code_injective⟩
      have hshift : (1 <<< a.code : BitVec 13).getLsbD k.code = decide (k.code = a.code) := by
        rw [BitVec.natCast_eq_ofNat, BitVec.getLsbD_ofNat, Nat.one_shiftLeft, Nat.testBit_two_pow]
        simp [hk, eq_comm]
      rw [KindSet.has, BitVec.getLsbD_or, hshift]
      simp only [hcode, KindSet.has]
    rw [List.foldl_cons, ih, hbit, Bool.or_assoc]
    simp [List.mem_cons]

theorem KindSet.has_ofList (ks : List AttentionKind) (k : AttentionKind) : (KindSet.ofList ks).has k = decide (k ∈ ks) := by
  rw [KindSet.ofList, KindSet.has_foldl]
  simp [KindSet.has]

/-- The full mask holds the kinds that one of the roles receives. -/
theorem fullMask_has (rs : RoleSet) (k : AttentionKind) : (fullMask rs).has k = rs.hasAny k.receivers := by
  rw [fullMask, KindSet.has_ofList]
  simp [k.mem_all]

/-- Every role receives PART_RESET. -/
theorem fullMask_partReset {rs : RoleSet} (h : rs ≠ 0) : (fullMask rs).has .partReset = true := by
  rw [fullMask_has]
  by_contra hno
  refine h (BitVec.eq_of_getLsbD_eq fun i hi => ?_)
  simp only [RoleSet.hasAny, AttentionKind.receivers, Role.all, List.any_cons, List.any_nil, RoleSet.has, Role.code,
    Bool.or_false, Bool.or_eq_true, not_or, Bool.not_eq_true] at hno
  obtain ⟨h0, h1, h2, h3, h4, h5⟩ := hno
  interval_cases i <;> simp_all

theorem mem_addMark {k : AttentionKind} {u : BitVec 16} {ms : List Mark} {m : Mark} (h : m ∈ addMark k u ms) :
    m.kind = k ∨ m ∈ ms := by
  induction ms with
  | nil =>
    rw [addMark, List.mem_singleton] at h
    exact .inl (h ▸ rfl)
  | cons a ms ih =>
    unfold addMark at h
    split at h
    · rcases List.mem_cons.1 h with rfl | h
      · exact .inl rfl
      · exact .inr (List.mem_cons_of_mem _ h)
    · split at h
      · rcases List.mem_cons.1 h with rfl | h
        · exact .inl rfl
        · exact .inr h
      · rcases List.mem_cons.1 h with rfl | h
        · exact .inr List.mem_cons_self
        · exact (ih h).imp id (List.mem_cons_of_mem _)

theorem addMark_pairwise (k : AttentionKind) (u : BitVec 16) {ms : List Mark}
    (h : ms.Pairwise (fun a b => a.kind.code < b.kind.code)) :
    (addMark k u ms).Pairwise (fun a b => a.kind.code < b.kind.code) := by
  induction ms with
  | nil => exact List.pairwise_singleton _ _
  | cons a ms ih =>
    obtain ⟨ha, hms⟩ := List.pairwise_cons.1 h
    unfold addMark
    split
    · next e => exact List.pairwise_cons.2 ⟨fun b hb => by have := ha b hb; rwa [e] at this, hms⟩
    · next hne =>
      split
      · next hlt =>
        refine List.pairwise_cons.2 ⟨fun b hb => ?_, h⟩
        rcases List.mem_cons.1 hb with rfl | hb
        · exact hlt
        · exact hlt.trans (ha b hb)
      · next hnlt =>
        refine List.pairwise_cons.2 ⟨fun b hb => ?_, ih hms⟩
        rcases mem_addMark hb with hk | hb
        · have hcode : a.kind.code ≠ k.code := fun e => hne (AttentionKind.code_injective e)
          rw [hk]
          omega
        · exact ha b hb

theorem Station.MarksInMask.mark {x : Station} (h : x.MarksInMask) (k : AttentionKind) (u : BitVec 16) :
    (x.mark k u).MarksInMask := by
  obtain ⟨hmask, hreset, hmarks, horder⟩ := h
  unfold Station.mark
  split
  · next hk =>
    refine ⟨hmask, hreset, fun m hm => ?_, addMark_pairwise k u horder⟩
    rcases mem_addMark hm with hkind | hm
    · exact hkind ▸ hk
    · exact hmarks m hm
  · exact ⟨hmask, hreset, hmarks, horder⟩

theorem Station.initial_marksInMask : Station.initial.MarksInMask :=
  ⟨fun k hk => by simp [Station.initial, KindSet.has] at hk, nofun, nofun, List.Pairwise.nil⟩

theorem keepMark_some {rs : RoleSet} {b : Option HandlerId} {m n : Mark} (h : keepMark rs b m = some n) :
    n.kind = m.kind ∧ (fullMask rs).has m.kind = true := by
  unfold keepMark at h
  split at h
  · cases h
  · next hhas =>
    have hhas : (fullMask rs).has m.kind = true := by simpa using hhas
    split at h
    · split at h
      · split at h
        · cases h
        · cases h; exact ⟨rfl, hhas⟩
      · cases h
    · cases h; exact ⟨rfl, hhas⟩

theorem Station.MarksInMask.enroll {x : Station} (h : x.MarksInMask) {rs : RoleSet} (hrs : rs ≠ 0) (b : Option HandlerId) :
    (x.enroll rs b).MarksInMask := by
  obtain ⟨-, -, -, horder⟩ := h
  refine ⟨fun _ hk => hk, fun _ => fullMask_partReset hrs, ?_, ?_⟩
  · intro m hm
    unfold Station.enroll at hm
    dsimp only at hm
    split at hm
    · obtain ⟨a, -, ha⟩ := List.mem_filterMap.1 hm
      obtain ⟨hkind, hhas⟩ := keepMark_some ha
      exact hkind ▸ hhas
    · cases hm
  · unfold Station.enroll
    dsimp only
    split
    · rw [List.pairwise_filterMap]
      exact horder.imp fun hab c hc d hd => by rw [(keepMark_some hc).1, (keepMark_some hd).1]; exact hab
    · exact List.Pairwise.nil

theorem maskFor_has (rs : RoleSet) (kinds : BitVec 16) (k : AttentionKind) :
    (maskFor rs kinds).has k = ((kinds.getLsbD k.code && (fullMask rs).has k) || decide (k = .partReset)) := by
  have hk := k.code_lt
  have hreset : (KindSet.ofList [.partReset]).getLsbD k.code = decide (k = .partReset) := by
    rw [← KindSet.has, KindSet.has_ofList]
    simp
  rw [maskFor, KindSet.has, BitVec.getLsbD_or, BitVec.getLsbD_and, BitVec.getLsbD_setWidth, hreset]
  simp [hk, KindSet.has]

theorem State.MarksInMasks.updStation {s : State} (hs : s.MarksInMasks) (i : StationId) {f : Station → Station}
    (hf : (f s.stations[i]).MarksInMask) : (s.updStation i f).MarksInMasks := fun j => by
  rw [State.updStation_stations, set_getElem_fin]
  split
  · exact hf
  · exact hs j

theorem Minor.keeps_marks {s t : State} (h : Minor s t) (hs : s.MarksInMasks) : t.MarksInMasks := by
  cases h with
  | mark i k u => exact hs.updStation i ((hs i).mark k u)
  | markRoles rs k u =>
    intro i
    rw [State.markRoles_stations, vecMap_getElem_fin]
    split
    · exact (hs i).mark k u
    · exact hs i
  | handler | tester | pending | lot | releaseQueue => exact hs

theorem Station.MarksInMask.masked {x : Station} (h : x.MarksInMask) (henrolled : x.enrolled = true) (kinds : BitVec 16) :
    ({ x with mask := maskFor x.roles kinds
              attention := x.attention.filter (fun m => (maskFor x.roles kinds).has m.kind) } : Station).MarksInMask := by
  obtain ⟨hmask, hreset, -, horder⟩ := h
  refine ⟨fun k hk => ?_, fun _ => ?_, fun m hm => ?_, horder.filter _⟩
  · dsimp only at hk
    rw [maskFor_has, Bool.or_eq_true, Bool.and_eq_true, decide_eq_true_eq] at hk
    rcases hk with ⟨-, hk⟩ | rfl
    · exact hk
    · exact hmask _ (hreset henrolled)
  · dsimp only
    rw [maskFor_has]
    simp
  · simpa using (List.mem_filter.1 hm).2

theorem Own.keeps_marks {k : Kind} {s t : State} (h : Own k s t) (hs : s.MarksInMasks) : t.MarksInMasks := by
  have rebound : ∀ (i : StationId) (b : Option HandlerId) (f : Station → Station), (f s.stations[i]).MarksInMask →
      ((s.bind i s.stations[i].bound b).updStation i f).MarksInMasks := by
    intro i b f hf
    have hstations := s.bind_stations i s.stations[i].bound b
    refine State.MarksInMasks.updStation (fun j => ?_) i ?_
    · rw [hstations]; exact hs j
    · rw [hstations]; exact hf
  cases h with
  | enroll _ i rs new _ hroles => exact rebound i new _ ((hs i).enroll hroles new)
  | remove _ i => exact rebound i none _ Station.initial_marksInMask
  | readAttention _ i =>
    obtain ⟨hmask, hreset, -, -⟩ := hs i
    exact hs.updStation i ⟨hmask, hreset, nofun, List.Pairwise.nil⟩
  | mask _ i kinds henrolled => exact hs.updStation i ((hs i).masked henrolled kinds)
  | useDeviation _ d => unfold State.useDeviation; split <;> exact hs
  | _ => exact hs

theorem Station.first_marksInMask : Station.first.MarksInMask := by
  have hmask : Station.first.mask = fullMask Station.first.roles := by decide
  exact ⟨fun _ hk => hmask ▸ hk, fun _ => by decide, nofun, List.Pairwise.nil⟩

theorem marksInMasks_kept : Kept State.MarksInMasks where
  minor h := h.keeps_marks
  own h := h.keeps_marks
  sweep h hs := by cases h <;> exact hs
  reset := fun i => by
    change (((Vector.replicate 31 Station.initial).set 0 Station.first)[i]).MarksInMask
    rw [Fin.getElem_fin, Vector.getElem_set]
    split
    · exact Station.first_marksInMask
    · rw [Vector.getElem_replicate]; exact Station.initial_marksInMask

/-- Settles O57: the first station is never enrolled or removed, and a mark stands in the mask and in code order. -/
theorem stepKeepsStations : Obligations.StepKeepsStations :=
  fun _ _ h => ⟨firstStation_kept.step h, marksInMasks_kept.step h⟩

/-! ### Counters, counts and uses -/

theorem nextStamp_le (n : Nat) : nextStamp n ≤ 4294967295 := by
  have hmax : Config.stampMax = 4294967295 := rfl
  unfold nextStamp holdAt
  split <;> omega

/-- The two stamp counters are within their width. -/
def State.StampsInRange (s : State) : Prop := s.stampCounter ≤ 4294967295 ∧ s.waitingCounter ≤ 4294967295

theorem Own.keeps_stampsInRange {k : Kind} {s t : State} (h : Own k s t) (hs : s.StampsInRange) : t.StampsInRange := by
  obtain ⟨hstamp, hwaiting⟩ := hs
  cases h with
  | stamp => exact ⟨nextStamp_le _, hwaiting⟩
  | waitStamp => exact ⟨hstamp, nextStamp_le _⟩
  | enroll _ i rs new =>
    obtain ⟨hs', e⟩ := s.bind_frame i s.stations[i].bound new
    rw [e]; exact ⟨hstamp, hwaiting⟩
  | remove _ i =>
    obtain ⟨hs', e⟩ := s.bind_frame i s.stations[i].bound none
    rw [e]; exact ⟨hstamp, hwaiting⟩
  | useDeviation _ d => unfold State.useDeviation; split <;> exact ⟨hstamp, hwaiting⟩
  | _ => exact ⟨hstamp, hwaiting⟩

theorem stampsInRange_kept : Kept State.StampsInRange where
  minor h hs := by cases h <;> exact hs
  own h := h.keeps_stampsInRange
  sweep h hs := by cases h <;> exact hs
  reset := ⟨Nat.zero_le _, Nat.zero_le _⟩

theorem State.CountsAgree.updLot {s : State} (hs : s.CountsAgree) (k : Slot) {f : Lot → Lot}
    (hf : ∀ l : Lot, l.CountsOk → (f l).CountsOk) : (s.updLot k f).CountsAgree := by
  intro l hl
  obtain ⟨x, hx, rfl⟩ := List.mem_map.1 hl
  split
  · exact hf x (hs x hx)
  · exact hs x hx

theorem mem_insertLot {l x : Lot} {ls : List Lot} : x ∈ insertLot l ls ↔ x = l ∨ x ∈ ls := by
  induction ls with
  | nil => simp [insertLot]
  | cons a ls ih =>
    unfold insertLot
    split
    · rw [List.mem_cons]
    · rw [List.mem_cons, ih, List.mem_cons]; tauto

theorem newLot_countsOk (k : Slot) (id : Text) (p : ProductIx) (q n : Nat) : (newLot k id p q n).CountsOk := by
  intro r hr
  rw [Lot.steps, newLot, List.nil_append, List.mem_singleton] at hr
  exact hr ▸ StepRecord.opened_countsAgree q

theorem Own.keeps_counts {k : Kind} {s t : State} (h : Own k s t) (hs : s.CountsAgree) : t.CountsAgree := by
  cases h with
  | register _ j id p q n =>
    intro l hl
    rcases mem_insertLot.1 hl with rfl | hl
    · exact newLot_countsOk j id p q n
    · exact hs l hl
  | drop => exact fun l hl => hs l (List.mem_of_mem_filter hl)
  | enroll _ i rs new =>
    obtain ⟨hs', e⟩ := s.bind_frame i s.stations[i].bound new
    rw [e]; exact hs
  | remove _ i =>
    obtain ⟨hs', e⟩ := s.bind_frame i s.stations[i].bound none
    rw [e]; exact hs
  | useDeviation _ d => unfold State.useDeviation; split <;> exact hs
  | _ => exact hs

theorem countsAgree_kept : Kept State.CountsAgree where
  minor h hs := by
    cases h with
    | lot k f _ hcounts => exact hs.updLot k hcounts
    | mark | markRoles | handler | tester | pending | releaseQueue => exact hs
  own h := h.keeps_counts
  sweep h hs := by
    cases h with
    | lots f _ hcounts =>
      intro l hl
      obtain ⟨x, hx, rfl⟩ := List.mem_map.1 hl
      exact hcounts x (hs x hx)
    | handlers | testers | pending | guards | frame => exact hs
  reset _ hl := absurd hl List.not_mem_nil

theorem State.DeviationsCovered.updDeviation {s : State} (hs : s.DeviationsCovered) (d : DevId)
    {f : Option Deviation → Option Deviation}
    (hf : ∀ e ∈ f s.deviations[d], e.pending ≤ e.remaining ∧ 1 ≤ e.remaining) : (s.updDeviation d f).DeviationsCovered := by
  intro i
  rw [State.updDeviation_deviations, set_getElem_fin]
  split
  · exact hf
  · exact hs i

theorem Deviation.begun_some {e x : Deviation} (h : e.begun = some x) :
    x.pending = e.pending - 1 ∧ x.remaining = e.remaining - 1 ∧ e.remaining - 1 ≠ 0 := by
  unfold Deviation.begun at h
  split at h
  · cases h
  · next hne => cases h; exact ⟨rfl, rfl, hne⟩

theorem Own.keeps_covered {k : Kind} {s t : State} (h : Own k s t) (hs : s.DeviationsCovered) : t.DeviationsCovered := by
  cases h with
  | setDeviation _ d e hfree hpending hremaining =>
    refine hs.updDeviation d (fun x hx => ?_)
    cases hx
    exact ⟨by omega, hremaining⟩
  | clearDeviation _ d => exact hs.updDeviation d nofun
  | useDeviation _ d =>
    unfold State.useDeviation
    split
    · next i =>
      refine hs.updDeviation i (fun x hx => ?_)
      obtain ⟨e, he, hbegun⟩ := Option.bind_eq_some_iff.1 hx
      obtain ⟨hpending, hremaining, hne⟩ := Deviation.begun_some hbegun
      have hcovered := hs i e he
      omega
    · exact hs
  | enroll _ i rs new =>
    obtain ⟨hs', e⟩ := s.bind_frame i s.stations[i].bound new
    rw [e]; exact hs
  | remove _ i =>
    obtain ⟨hs', e⟩ := s.bind_frame i s.stations[i].bound none
    rw [e]; exact hs
  | _ => exact hs

theorem deviationsCovered_kept : Kept State.DeviationsCovered where
  minor h hs := by
    cases h with
    | pending d f hf =>
      refine hs.updDeviation d (fun x hx => ?_)
      obtain ⟨e, he, rfl⟩ := Option.map_eq_some_iff.1 hx
      have hcovered := hs d e he
      have hle := hf e he
      exact ⟨by dsimp only; omega, hcovered.2⟩
    | mark | markRoles | handler | tester | lot | releaseQueue => exact hs
  own h := h.keeps_covered
  sweep h hs := by
    cases h with
    | pending =>
      intro d x hx
      rw [vecMap_getElem_fin] at hx
      obtain ⟨e, he, rfl⟩ := Option.map_eq_some_iff.1 hx
      exact ⟨Nat.zero_le _, (hs d e he).2⟩
    | handlers | testers | lots | guards | frame => exact hs
  reset := by
    intro d e he
    simp [State.reset] at he

/-! ### The link and its counters -/

theorem holdAt_le (m n : Nat) : holdAt m n ≤ m := by
  unfold holdAt
  split <;> omega

/-- The link and the number of line resets, within their bounds. -/
theorem Effect.keeps_linkRange {c : Instr} {s t : State} (h : Effect c s t) (hlink : s.link.InRange)
    (hresets : s.lineResets ≤ 255) : t.link.InRange ∧ t.lineResets ≤ 255 := by
  have ofBase : ∀ {u : State}, u.base = s.base → u.link.InRange ∧ u.lineResets ≤ 255 := fun {u} hb => by
    have hfields : u.link = s.link ∧ u.lineResets = s.lineResets := by
      simp only [State.base, Prod.mk.injEq] at hb
      exact ⟨hb.2.2.2.2.2.1, hb.2.2.2.2.2.2.2.1⟩
    rw [hfields.1, hfields.2]
    exact ⟨hlink, hresets⟩
  cases h with
  | nothing => exact ⟨hlink, hresets⟩
  | answered _ k m r b _ u _ hroom hrefused haccepted =>
    have hu : u.link = s.taken.link ∧ u.lineResets = s.lineResets := by
      by_cases hok : r = .ok
      · exact ⟨(haccepted hok).keeps_link.1, (haccepted hok).keeps_link.2.2.2⟩
      · rw [hrefused hok]; exact ⟨rfl, rfl⟩
    exact ⟨State.link_answered_inRange hroom hu.1 m k r b hlink, by rw [← hu.2] at hresets; exact hresets⟩
  | link _ _ k _ hrange => exact ⟨hrange hlink, hresets⟩
  | powerOn a b => exact ⟨⟨Nat.zero_le _, Nat.zero_le _, Nat.zero_le _, Nat.zero_le _, Nat.zero_le _⟩, Nat.zero_le _⟩
  | lineReset =>
    have hkept : s.placeInterrupted.link = s.link := by
      obtain ⟨_, _, e⟩ := s.placeInterrupted_frame
      rw [e]
    obtain ⟨-, -, hbad, hdropped, hfaults⟩ := hlink
    rw [← hkept] at hbad hdropped hfaults
    exact ⟨⟨Nat.zero_le _, Nat.zero_le _, hbad, hdropped, hfaults⟩, holdAt_le _ _⟩
  | release => exact ⟨hlink, hresets⟩
  | tick => exact ⟨hlink, hresets⟩
  | queueTime k => exact ofBase (s.queueTimeExpiry_base k)
  | soak h => exact ofBase (s.soakExpiry_base h)
  | deadline u => exact ofBase (s.deadlineExpiry_base u)
  | stall h => exact ofBase (s.stallExpiry_base h)

theorem step_keeps_countersInRange {s t : State} (h : step s = .next t) (hs : s.CountersInRange) : t.CountersInRange := by
  obtain ⟨hrx, hresponses, hbad, hdropped, hfaults, hresets, hstamps⟩ := hs
  have hlink : t.link.InRange ∧ t.lineResets ≤ 255 := by
    rcases step_cases h with rfl | ⟨c, rest, -, hexec⟩
    · exact ⟨⟨hrx, hresponses, hbad, hdropped, hfaults⟩, hresets⟩
    · exact (exec_effect hexec).keeps_linkRange ⟨hrx, hresponses, hbad, hdropped, hfaults⟩ hresets
  obtain ⟨⟨hrx, hresponses, hbad, hdropped, hfaults⟩, hresets⟩ := hlink
  exact ⟨hrx, hresponses, hbad, hdropped, hfaults, hresets, stampsInRange_kept.step h hstamps⟩

/-! ### Lots let go -/

theorem slotsInOrder_iff (s : State) : s.SlotsInOrder ↔ (s.lots.map (·.slot)).Pairwise (· < ·) := by
  rw [List.pairwise_map]
  rfl

theorem State.SlotsInOrder.updLot {s : State} (hs : s.SlotsInOrder) (k : Slot) {f : Lot → Lot}
    (hf : ∀ x : Lot, (f x).slot = x.slot) : (s.updLot k f).SlotsInOrder := by
  rw [slotsInOrder_iff, s.updLot_slots k hf, ← slotsInOrder_iff]
  exact hs

/-- A lot placed in a slot that no lot has keeps the slots in order. -/
theorem insertLot_inOrder {l : Lot} {ls : List Lot} (hls : ls.Pairwise (fun a b => a.slot < b.slot))
    (hfree : ∀ x ∈ ls, x.slot ≠ l.slot) : (insertLot l ls).Pairwise (fun a b => a.slot < b.slot) := by
  induction ls with
  | nil => exact List.pairwise_singleton _ _
  | cons a ls ih =>
    obtain ⟨ha, hrest⟩ := List.pairwise_cons.1 hls
    unfold insertLot
    split
    · next hlt =>
      refine List.pairwise_cons.2 ⟨fun b hb => ?_, hls⟩
      rcases List.mem_cons.1 hb with rfl | hb
      · exact hlt
      · exact lt_trans hlt (ha b hb)
    · next hnlt =>
      have hne := hfree a List.mem_cons_self
      refine List.pairwise_cons.2 ⟨fun b hb => ?_, ih hrest (fun x hx => hfree x (List.mem_cons_of_mem _ hx))⟩
      rcases mem_insertLot.1 hb with rfl | hb
      · exact lt_of_le_of_ne (not_lt.1 hnlt) hne
      · exact ha b hb

theorem State.freeSlot?_free {s : State} {k : Slot} (h : s.freeSlot? = some k) : ∀ x ∈ s.lots, x.slot ≠ k := by
  have hnone := lowestIndex_some h
  simp only [State.lot?, Option.isNone_iff_eq_none, List.find?_eq_none, decide_eq_true_eq] at hnone
  exact hnone

theorem State.SlotsInOrder.addLot {s : State} (hs : s.SlotsInOrder) {l : Lot} (h : s.freeSlot? = some l.slot) :
    (s.addLot l).SlotsInOrder :=
  insertLot_inOrder hs (State.freeSlot?_free h)

theorem State.LetGoByRoles.updLot {s : State} (hs : s.LetGoByRoles) (k : Slot) {f : Lot → Lot}
    (hname : ∀ x, (f x).slot = x.slot ∧ (f x).id = x.id)
    (hlet : s.SlotsInOrder → ∀ x ∈ s.lots, x.slot = k → x.LetGo → (f x).LetGo) : (s.updLot k f).LetGoByRoles := by
  obtain ⟨hslots, hgo⟩ := hs
  refine ⟨hslots.updLot k (fun x => (hname x).1), fun l hl => ?_⟩
  obtain ⟨x, hx, rfl⟩ := List.mem_map.1 hl
  split
  · next hk => exact hlet hslots x hx hk (hgo x hx)
  · exact hgo x hx

theorem Own.keeps_letGo {k : Kind} {s t : State} (h : Own k s t) (hs : s.LetGoByRoles) : t.LetGoByRoles := by
  cases h with
  | register _ j id p q n hfree =>
    refine ⟨hs.1.addLot (l := newLot j id p q n) hfree, fun l hl => ?_⟩
    rcases mem_insertLot.1 hl with rfl | hl
    · exact .emptied ⟨nofun, rfl⟩ rfl
    · exact hs.2 l hl
  | drop => exact ⟨hs.1.filter _, fun l hl => hs.2 l (List.mem_of_mem_filter hl)⟩
  | enroll _ i rs new =>
    obtain ⟨hs', e⟩ := s.bind_frame i s.stations[i].bound new
    rw [e]; exact hs
  | remove _ i =>
    obtain ⟨hs', e⟩ := s.bind_frame i s.stations[i].bound none
    rw [e]; exact hs
  | useDeviation _ d => unfold State.useDeviation; split <;> exact hs
  | _ => exact hs

theorem letGoByRoles_kept : Kept State.LetGoByRoles where
  minor h hs := by
    cases h with
    | lot k f hname _ hlet => exact hs.updLot k hname hlet
    | mark | markRoles | handler | tester | pending | releaseQueue => exact hs
  own h := h.keeps_letGo
  sweep {s t} h hs := by
    cases h with
    | lots f hname _ hlet =>
      refine ⟨?_, fun l hl => ?_⟩
      · have hslots : (s.lots.map f).map (·.slot) = s.lots.map (·.slot) := by
          rw [List.map_map]
          exact List.map_congr_left (fun x _ => (hname x).1)
        rw [slotsInOrder_iff, hslots, ← slotsInOrder_iff]
        exact hs.1
      · obtain ⟨x, hx, rfl⟩ := List.mem_map.1 hl
        exact hlet x (hs.2 x hx)
    | handlers | testers | pending | guards | frame => exact hs
  reset := ⟨List.Pairwise.nil, fun _ hl => absurd hl List.not_mem_nil⟩

/-- Settles O59: a lot is let go only as its last required endorsement comes, and an entry is written once by a station. -/
theorem stepKeepsLetGoByRoles : Obligations.StepKeepsLetGoByRoles :=
  fun _ _ h => letGoByRoles_kept.step h

theorem reset_cell (h : HandlerId) : State.reset.handlers[h].cell = .offline := by
  have hinitial : State.reset.handlers[h] = Handler.initial := Vector.getElem_replicate _
  rw [hinitial]
  rfl

theorem reset_lots : State.reset.lots = [] := rfl

theorem reset_releaseQueue : State.reset.releaseQueue = [] := rfl

/-- Power-on leaves no lot, every handler OFFLINE and the release queue empty. -/
theorem reset_consistent : State.reset.Consistent := by
  have nolot : ∀ l, l ∉ State.reset.lots := fun l => by rw [reset_lots]; exact List.not_mem_nil
  refine ⟨List.Pairwise.nil, fun l hl => absurd hl (nolot l), fun h k hk => ?_, fun h => ⟨fun k q hk => ?_, fun k q hk => ?_⟩,
    fun l hl => absurd hl (nolot l), ?_, fun h => ?_⟩
  · rw [reset_cell] at hk; cases hk
  · rw [reset_cell] at hk; cases hk
  · rw [reset_cell] at hk; cases hk
  · unfold State.ReleaseQueueAgrees
    rw [reset_releaseQueue]
    exact ⟨Nat.zero_le _, List.nodup_nil, nofun, fun l hl => absurd hl (nolot l)⟩
  · rw [State.waitingList, reset_lots] at h
    exact absurd rfl h

/-- Settles O55: at power-on every condition holds. -/
theorem conditionsHoldAtReset : Obligations.ConditionsHoldAtReset := by
  have hstamps := stampsInRange_kept.reset
  refine ⟨dockingMutual_kept.reset, bindingMutual_kept.reset, firstStation_kept.reset, marksInMasks_kept.reset, ?_,
    countsAgree_kept.reset, deviationsCovered_kept.reset, fun d => ?_, letGoByRoles_kept.reset, reset_consistent⟩
  · exact ⟨Nat.zero_le _, Nat.zero_le _, Nat.zero_le _, Nat.zero_le _, Nat.zero_le _, Nat.zero_le _, hstamps⟩
  · simp [State.reset]

end Sys2Proof.Machine
end

section
/-! SUPPORT. The commands that are no requests: the step, power-on, the release of a reset, the link, the tick and the expiries. -/

namespace Sys2Proof.Machine

theorem holdAt_eq (top n : Nat) : holdAt top n = min top n := by
  unfold holdAt
  split <;> omega

/-! ### The step, power-on, and the release of a reset -/

/-- Settles O1: a step takes the front command by definition. -/
theorem stepRunsFrontCommand : Obligations.StepRunsFrontCommand := fun _ _ _ => rfl

/-- Settles O3: the tables of the power-on state are copies of one record each, but for station 1. -/
theorem powerOnReset : Obligations.PowerOnReset := by
  intro rate1 rate0 s
  have first : (powerOn rate1 rate0 s).stations[(0 : StationId)] = Station.first := by
    change ((Vector.replicate 31 Station.initial).set 0 Station.first)[0] = _
    simp
  have others : ∀ i : StationId, i ≠ 0 → (powerOn rate1 rate0 s).stations[i] = Station.initial := fun i hi => by
    have hne : ¬ 0 = i.val := fun h => hi (Fin.ext h.symm)
    change ((Vector.replicate 31 Station.initial).set 0 Station.first)[i.val] = _
    rw [Vector.getElem_set, if_neg hne, Vector.getElem_replicate]
  refine ⟨powerOn rate1 rate0 s, rfl, rfl, fun _ => Vector.getElem_replicate _, fun _ => Vector.getElem_replicate _,
    fun _ => Vector.getElem_replicate _, fun _ => Vector.getElem_replicate _, fun _ => Vector.getElem_replicate _,
    fun _ => Vector.getElem_replicate _, ?_, others, rfl, rfl, rfl, rfl, rfl, rfl, rfl, rfl, rfl, rfl, rfl, rfl, rfl, rfl, rfl,
    rfl⟩
  rw [first]
  exact ⟨rfl, rfl, rfl, by decide, rfl⟩

theorem RoleSet.hasAny_all (rs : RoleSet) : rs.hasAny Role.all = decide (rs ≠ 0) := by
  have hall := fullMask_has rs .partReset
  rw [show AttentionKind.partReset.receivers = Role.all from rfl] at hall
  by_cases h : rs = 0
  · subst h; decide
  · rw [← hall, fullMask_partReset h, decide_eq_true h]

theorem exec_resetRelease_of_inReset {s : State} (h : s.inReset = true) (rate1 rate0 : Bool) :
    exec (.resetRelease rate1 rate0) s = .next (s.leaveReset rate1 rate0) := if_pos h

theorem State.event_of_inReset {s : State} (h : s.inReset = true) (f : State → State) : s.event f = .next s := if_pos h

theorem State.event_of_not_inReset {s : State} (h : s.inReset = false) (f : State → State) : s.event f = .next (f s) :=
  if_neg (by simp [h])

theorem State.deliver_of_inReset {s : State} (h : s.inReset = true) (sender : StationId) (kind : Nat) (tag : Fin 16)
    (reads : List Byte → Bool) : s.deliver sender kind tag reads = none := if_pos (by simp [h])

theorem State.request_of_inReset {s : State} (h : s.inReset = true) (k : Kind) (m : Msg) (reads : List Byte → Bool)
    (block : State → Reply) : s.request k m reads block = .next s := by
  unfold State.request
  rw [State.deliver_of_inReset h]

/-- While the part is in reset a command other than its release and a power-on does nothing. -/
theorem exec_of_inReset {c : Instr} {s : State} (h : s.inReset = true) (hpower : ∀ a b, c ≠ .powerOnReset a b)
    (hrelease : ∀ a b, c ≠ .resetRelease a b) : exec c s = .next s := by
  cases hrequest : c.request? with
  | some km =>
    obtain ⟨reads, block, hexec, -⟩ := exec_request (k := km.1) (m := km.2) hrequest s
    rw [hexec, State.request_of_inReset h]
  | none =>
    cases c with
    | powerOnReset a b => exact absurd rfl (hpower a b)
    | lineReset => exact if_pos h
    | resetRelease a b => exact absurd rfl (hrelease a b)
    | frameReceive levels => exact State.event_of_inReset h (fun s => s.updLink (fun k => k.receiveFrame (receive levels)))
    | linkRefusal sender kind tag =>
      change execLinkRefusal sender kind tag s = _
      unfold execLinkRefusal
      rw [State.deliver_of_inReset h]
    | responseSend outcome => exact State.event_of_inReset h (fun s => s.updLink (fun k => k.sendResponse outcome))
    | secondTick => exact State.event_of_inReset h _
    | queueTimeExpiry k => exact State.event_of_inReset h _
    | soakExpiry h' => exact State.event_of_inReset h _
    | stagingDeadlineExpiry u => exact State.event_of_inReset h _
    | stallExpiry h' => exact State.event_of_inReset h _
    | _ => cases hrequest

/-- Settles O5: the release marks the enrolled stations that hold a role, which is every role's kind. -/
theorem inReset : Obligations.InReset := by
  refine ⟨fun rate1 rate0 s h => ?_, fun c s h hpower hrelease => exec_of_inReset h hpower hrelease⟩
  rw [exec_resetRelease_of_inReset h]
  have hstations : (fun x : Station => if x.enrolled && x.roles.hasAny Role.all then x.mark .partReset 0 else x) =
      fun x => if x.enrolled && x.roles ≠ 0 && x.mask.has .partReset then
        { x with attention := addMark .partReset 0 x.attention } else x := by
    funext x
    rw [RoleSet.hasAny_all, Station.mark]
    by_cases hcounts : (x.enrolled && decide (x.roles ≠ 0)) = true
    · rw [if_pos hcounts, hcounts, Bool.true_and]
    · rw [if_neg hcounts, Bool.eq_false_iff.2 hcounts, Bool.false_and, if_neg Bool.false_ne_true]
  unfold State.leaveReset
  rw [← hstations]
  rfl

/-! ### The link -/

theorem exec_frameReceive_of_not_inReset {s : State} (h : s.inReset = false) (levels : List Bool) :
    exec (.frameReceive levels) s = .next { s with link := s.link.receiveFrame (receive levels) } :=
  State.event_of_not_inReset h (fun s => s.updLink (fun k => k.receiveFrame (receive levels)))

theorem exec_responseSend_of_not_inReset {s : State} (h : s.inReset = false) (o : SendOutcome) :
    exec (.responseSend o) s = .next { s with link := s.link.sendResponse o } :=
  State.event_of_not_inReset h (fun s => s.updLink (fun k => k.sendResponse o))

theorem countUp_eq (n : Nat) : countUp n = min 65535 (n + 1) := holdAt_eq _ _

theorem Link.receiveFrame_good {k : Link} (f : Frame) (hrx : k.rxBuffer.length < 4) (hq : k.responses.length < 4) :
    k.receiveFrame (.good f) = { k with rxBuffer := k.rxBuffer ++ [f], ackSlot := true } :=
  if_pos (by simp [Config.linkDepth, hrx, hq])

theorem Link.receiveFrame_full {k : Link} (f : Frame) (h : 4 ≤ k.rxBuffer.length ∨ 4 ≤ k.responses.length) :
    k.receiveFrame (.good f) = { k with ackSlot := false } := by
  have hdepth : Config.linkDepth = 4 := rfl
  refine if_neg ?_
  rw [hdepth, Bool.and_eq_true, decide_eq_true_eq, decide_eq_true_eq]
  omega

/-- Settles O8: the receiver by what it makes of the levels, the sender by its outcome. -/
theorem framesInAndResponsesOut : Obligations.FramesInAndResponsesOut := by
  refine ⟨fun levels s hreset => ?_, fun r rest s hreset hq => ?_⟩
  · rw [exec_frameReceive_of_not_inReset hreset]
    refine ⟨fun f hf hrx hresponses => ?_, fun f hf hfull => ?_, fun hbad => ?_, fun hignored => ?_⟩
    · rw [hf, Link.receiveFrame_good f hrx hresponses]
    · rw [hf, Link.receiveFrame_full f hfull]
    · rw [hbad, Link.receiveFrame, countUp_eq]
    · rw [hignored]; rfl
  · rw [exec_responseSend_of_not_inReset hreset, exec_responseSend_of_not_inReset hreset,
      exec_responseSend_of_not_inReset hreset]
    simp only [Link.sendResponse, hq, countUp_eq, and_self]

theorem exec_linkRefusal_of_delivered {s : State} {sender : StationId} {kind : Fin 64} {tag : Fin 16} {f : Frame}
    {rest : List Frame} {r : Result} (hreset : s.inReset = false) (hroom : s.link.responses.length < 4)
    (hrx : s.link.rxBuffer = f :: rest) (hsender : f.sender = sender) (hkind : f.kind = kind.val) (htag : f.tag = tag)
    (hcheck : s.linkCheck sender kind.val = some r) :
    exec (.linkRefusal sender kind tag) s =
      .next ((refuse (s.updLink (fun k => { k with rxBuffer := rest })) r).send sender kind.val tag) := by
  have hdeliver : s.deliver sender kind.val tag anyPayload = some (s.updLink (fun k => { k with rxBuffer := rest })) := by
    unfold State.deliver
    rw [if_neg (by simp [hreset, Config.linkDepth, Nat.not_le.2 hroom]), hrx]
    exact if_pos (by simp [hsender, hkind, htag, anyPayload])
  change execLinkRefusal sender kind tag s = _
  unfold execLinkRefusal
  rw [hdeliver]
  dsimp only
  rw [show (s.updLink (fun k => { k with rxBuffer := rest })).linkCheck sender kind.val = some r from hcheck]

theorem State.linkCheck_of_not_enrolled {s : State} {sender : StationId} (h : s.stations[sender].enrolled = false) (kind : Nat) :
    s.linkCheck sender kind = some .notPermitted := if_pos (by rw [h]; rfl)

theorem State.linkCheck_of_unknown {s : State} {sender : StationId} (h : s.stations[sender].enrolled = true) {kind : Nat}
    (hkind : Kind.ofCode? kind = none) : s.linkCheck sender kind = some .unknownKind := by
  unfold State.linkCheck
  rw [if_neg (by rw [h]; decide), hkind]

theorem State.linkCheck_of_not_admitted {s : State} {sender : StationId} (h : s.stations[sender].enrolled = true) {kind : Nat}
    {k : Kind} (hkind : Kind.ofCode? kind = some k) (hroles : k.roleCheck.admits s.stations[sender].roles = false) :
    s.linkCheck sender kind = some .notPermitted := by
  unfold State.linkCheck
  rw [if_neg (by rw [h]; decide), hkind]
  dsimp only
  revert hroles
  cases k.roleCheck with
  | any => exact nofun
  | block => exact nofun
  | roles rs => exact fun hroles => if_neg (by rw [State.rolesOf]; exact Bool.eq_false_iff.1 hroles)

/-- Settles O9: each refusal by the check that it fails. -/
theorem linkRefusal : Obligations.LinkRefusal := by
  intro sender kind tag f rest s hreset hroom hrx hsender hkind htag answer
  have refused : ∀ r, s.linkCheck sender kind.val = some r → exec (.linkRefusal sender kind tag) s = .next (answer r) :=
    fun r => exec_linkRefusal_of_delivered hreset hroom hrx hsender hkind htag
  exact ⟨fun h => refused _ (State.linkCheck_of_not_enrolled h _), fun h hunknown => refused _ (State.linkCheck_of_unknown h hunknown),
    fun k h hk hroles => refused _ (State.linkCheck_of_not_admitted h hk hroles)⟩

/-! ### The tick -/

theorem Wait.tick_eq (w : Wait) : w.tick = { w with age := min 604800 (w.age + 1), left := w.left.map (fun n => n - 1) } := by
  rw [Wait.tick, holdAt_eq]
  rfl

theorem Handler.stallRuns_iff (x : Handler) : x.stallRuns = true ↔ x.cell.name = .running ∧ x.stalled = false := by
  unfold Handler.stallRuns
  cases x.cell <;> simp [Cell.isRunning, Cell.name]

/-- Settles O11: the tick record by record. -/
theorem secondTick : Obligations.SecondTick := by
  intro s hreset waitTick
  have hwait : Wait.tick = waitTick := funext Wait.tick_eq
  have hlots : Lot.tick = fun l => match l.state with
      | .queued w => { l with state := .queued (waitTick w) }
      | .reserved w h r => { l with state := .reserved (waitTick w) h r }
      | _ => l := by
    rw [← hwait]
    rfl
  have hhandlers : Handler.tick = fun x =>
      { x with
        soakLeft := if x.thermal = .soaking then x.soakLeft - 1 else x.soakLeft
        stallLeft := if x.cell.name = .running ∧ x.stalled = false then x.stallLeft - 1 else x.stallLeft } := by
    funext x
    simp only [Handler.tick, x.stallRuns_iff]
  have htesters : Staged.tick = fun g => if g.state = .loading then { g with deadline := g.deadline - 1 } else g := rfl
  rw [exec_secondTick_of_not_inReset hreset, State.tick, hlots, hhandlers, htesters] <;> rfl

/-! ### The expiries of handlers and loads -/

theorem exec_soakExpiry_of_not_inReset {s : State} (h : s.inReset = false) (g : HandlerId) :
    exec (.soakExpiry g) s = .next (s.soakExpiry g) := State.event_of_not_inReset h _

theorem exec_stallExpiry_of_not_inReset {s : State} (h : s.inReset = false) (g : HandlerId) :
    exec (.stallExpiry g) s = .next (s.stallExpiry g) := State.event_of_not_inReset h _

theorem exec_stagingDeadlineExpiry_of_not_inReset {s : State} (h : s.inReset = false) (u : TesterId) :
    exec (.stagingDeadlineExpiry u) s = .next (s.deadlineExpiry u) := State.event_of_not_inReset h _

theorem exec_queueTimeExpiry_of_not_inReset {s : State} (h : s.inReset = false) (k : Slot) :
    exec (.queueTimeExpiry k) s = .next (s.queueTimeExpiry k) := State.event_of_not_inReset h _

theorem State.soakExpiry_due {s : State} {h : HandlerId} (hsoaks : s.handlers[h].thermal = .soaking)
    (hzero : s.handlers[h].soakLeft = 0) :
    s.soakExpiry h = (s.updHandler h (fun x => { x with thermal := .atTemp })).readyCheck h :=
  if_pos (by simp [hsoaks, hzero, -Fin.getElem_fin])

theorem State.soakExpiry_notDue {s : State} {h : HandlerId}
    (hno : s.handlers[h].thermal ≠ .soaking ∨ s.handlers[h].soakLeft ≠ 0) : s.soakExpiry h = s := by
  refine if_neg ?_
  rw [Bool.and_eq_true, decide_eq_true_eq, decide_eq_true_eq]
  tauto

theorem State.stallExpiry_due {s : State} {h : HandlerId} (hruns : s.handlers[h].stallRuns = true)
    (hzero : s.handlers[h].stallLeft = 0) :
    s.stallExpiry h = ((s.updHandler h (fun x => { x with stalled := true })).markBound h .stalled (unitBit h)).markRoles
      [.floor] .stalled (unitBit h) :=
  if_pos (by rw [hruns, hzero]; rfl)

theorem State.stallExpiry_notDue {s : State} {h : HandlerId}
    (hno : s.handlers[h].stallRuns = false ∨ s.handlers[h].stallLeft ≠ 0) : s.stallExpiry h = s := by
  refine if_neg ?_
  rw [Bool.and_eq_true, decide_eq_true_eq]
  rintro ⟨hruns, hzero⟩
  rcases hno with hno | hno
  · rw [hno] at hruns; cases hruns
  · exact hno hzero

theorem State.deadlineExpiry_due {s : State} {u : TesterId} {g : Staged} (hstaged : s.testers[u].staged = some g)
    (hloading : g.state = .loading) (hzero : g.deadline = 0) :
    s.deadlineExpiry u =
      (s.updTester u (fun x => { x with staged := some { g with state := .fault .timeout } })).loadEnded u := by
  unfold State.deadlineExpiry
  rw [hstaged]
  exact if_pos (by simp [hloading, hzero])

theorem State.deadlineExpiry_notDue {s : State} {u : TesterId}
    (hno : ∀ g, s.testers[u].staged = some g → g.state ≠ .loading ∨ g.deadline ≠ 0) : s.deadlineExpiry u = s := by
  unfold State.deadlineExpiry
  split
  · next g hg =>
    have hg := hno g hg
    refine if_neg ?_
    rw [Bool.and_eq_true, decide_eq_true_eq, decide_eq_true_eq]
    tauto
  · rfl

theorem State.queueTimeExpiry_notDue {s : State} {k : Slot}
    (hno : ∀ l, s.lot? k = some l → ∀ w, l.state.wait? = some w → w.left ≠ some 0) : s.queueTimeExpiry k = s := by
  unfold State.queueTimeExpiry
  split
  · next l hl =>
    refine if_neg ?_
    unfold Lot.queueTimeDue
    split
    · next w hw => simpa using hno l hl w hw
    · decide
  · rfl

/-- A reading of the part in or out of reset: an event that does nothing does nothing in either. -/
theorem State.event_of_same {s : State} {f : State → State} (h : f s = s) : s.event f = .next s := by
  unfold State.event
  rw [h, ite_self]

theorem State.reservedOn_congr {s t : State} (hh : t.handlers = s.handlers) (hl : t.lots = s.lots) (h : HandlerId) :
    t.reservedOn h = s.reservedOn h := by
  unfold State.reservedOn State.lot?
  rw [hh, hl]

theorem State.afterLoad_free {s : State} {u : TesterId} (h : s.testers[u].docked = none) : s.afterLoad u = s := by
  unfold State.afterLoad
  rw [h]

theorem State.afterLoad_unreserved {s : State} {u : TesterId} {h : HandlerId} (hdocked : s.testers[u].docked = some h)
    (hnone : s.reservedOn h = none) : s.afterLoad u = s := by
  unfold State.afterLoad
  rw [hdocked]
  dsimp only
  rw [hnone]

/-- A load that has ended in FAULT. -/
theorem State.loadEnded_fault {s : State} {u : TesterId} {g : Staged} {c : FaultCause} (h : s.testers[u].staged = some g)
    (hg : g.state = .fault c) : s.loadEnded u = (s.markStagingFault u).afterLoad u := by
  refine if_pos ?_
  rw [Tester.faulted, h, Option.any_some, hg]
  rfl

theorem State.markStagingFault_docked {s : State} {u : TesterId} {h : HandlerId} (hd : s.testers[u].docked = some h) :
    s.markStagingFault u = (s.markBound h .stagingFault (unitBit u)).markRoles [.engineering] .stagingFault (unitBit u) := by
  unfold State.markStagingFault
  rw [hd]

theorem State.markStagingFault_free {s : State} {u : TesterId} (hd : s.testers[u].docked = none) :
    s.markStagingFault u = s.markRoles [.engineering] .stagingFault (unitBit u) := by
  unfold State.markStagingFault
  rw [hd]

/-- A mark for a bound station leaves every table but the stations. -/
theorem State.markBound_tables (s : State) (h : HandlerId) (k : AttentionKind) (u : BitVec 16) :
    (s.markBound h k u).handlers = s.handlers ∧ (s.markBound h k u).testers = s.testers ∧
      (s.markBound h k u).lots = s.lots := by
  obtain ⟨_, e⟩ := s.markBound_frame h k u
  rw [e]
  exact ⟨rfl, rfl, rfl⟩

/-- Settles O13: each expiry by whether it is due; a load's end by what is docked. -/
theorem expiriesOfHandlersAndLoads : Obligations.ExpiriesOfHandlersAndLoads := by
  refine ⟨fun s h hreset => ?_, fun s u g hreset hstaged hloading hzero => ?_, fun s => ?_⟩
  · rw [exec_soakExpiry_of_not_inReset hreset, exec_stallExpiry_of_not_inReset hreset]
    refine ⟨fun hsoaks hzero => by rw [State.soakExpiry_due hsoaks hzero], fun k q hcell hstalled hzero => ?_⟩
    have hruns : s.handlers[h].stallRuns = true := (Handler.stallRuns_iff _).2 ⟨by rw [hcell]; rfl, hstalled⟩
    rw [State.stallExpiry_due hruns hzero]
  · intro failed
    have hfailed : failed.testers[u] = { s.testers[u] with staged := some { g with state := .fault .timeout } } := by
      rw [State.updTester_testers, set_getElem_self]
    have hended : exec (.stagingDeadlineExpiry u) s = .next ((failed.markStagingFault u).afterLoad u) := by
      rw [exec_stagingDeadlineExpiry_of_not_inReset hreset, State.deadlineExpiry_due hstaged hloading hzero,
        State.loadEnded_fault (c := .timeout) (by rw [hfailed]) rfl]
    have hdock : failed.testers[u].docked = s.testers[u].docked := by rw [hfailed]
    rw [hended]
    refine ⟨fun hnone => ?_, fun h hsome hfree => ?_, fun h hsome => ?_⟩
    · rw [← hdock] at hnone
      rw [State.markStagingFault_free hnone, State.afterLoad_free (by rw [State.markRoles_testers]; exact hnone)]
    · rw [← hdock] at hsome
      obtain ⟨hhandlers, htesters, hlots⟩ := failed.markBound_tables h .stagingFault (unitBit u)
      rw [State.markStagingFault_docked hsome, State.afterLoad_unreserved (h := h)]
      · rw [State.markRoles_testers, htesters]
        exact hsome
      · exact (State.reservedOn_congr (s := failed) hhandlers hlots h).trans hfree
    · rw [← hdock] at hsome
      rw [State.markStagingFault_docked hsome]
  · refine ⟨fun k hno => State.event_of_same (State.queueTimeExpiry_notDue hno),
      fun h hno => State.event_of_same (State.soakExpiry_notDue hno), fun h hno => State.event_of_same ?_,
      fun u hno => State.event_of_same (State.deadlineExpiry_notDue hno)⟩
    refine State.stallExpiry_notDue ?_
    have hiff := Handler.stallRuns_iff s.handlers[h]
    rcases hno with hcell | hstalled | hleft
    · exact .inl (Bool.eq_false_iff.2 fun hr => hcell (hiff.1 hr).1)
    · exact .inl (Bool.eq_false_iff.2 fun hr => by rw [(hiff.1 hr).2] at hstalled; cases hstalled)
    · exact .inr hleft

end Sys2Proof.Machine
end

section
/-! SUPPORT. Marks, the ready conditions, the end of a load, and the two resets of lots: exact readings of the shared operations. -/

namespace Sys2Proof.Machine

/-! ### Marks -/

theorem State.markRoles_eq (s : State) (rs : List Role) (k : AttentionKind) (u : BitVec 16) :
    s.markRoles rs k u = { s with stations := (s.markRoles rs k u).stations } := rfl

theorem State.markBound_eq (s : State) (h : HandlerId) (k : AttentionKind) (u : BitVec 16) :
    s.markBound h k u = { s with stations := (s.markBound h k u).stations } := by
  unfold State.markBound
  split <;> rfl

/-- A mark for a bound station reads the handler's binding and the stations alone. -/
theorem State.markBound_congr {s t : State} {h : HandlerId} (hbound : t.handlers[h].bound = s.handlers[h].bound)
    (hstations : t.stations = s.stations) (k : AttentionKind) (u : BitVec 16) :
    (t.markBound h k u).stations = (s.markBound h k u).stations := by
  unfold State.markBound
  rw [hbound]
  cases s.handlers[h].bound with
  | some i => rw [State.updStation_stations, State.updStation_stations, hstations]
  | none => exact hstations

/-- A mark for a bound station, with the stations read from a state of the same binding. -/
theorem State.markBound_of {s t : State} {h : HandlerId} (hbound : t.handlers[h].bound = s.handlers[h].bound)
    (hstations : t.stations = s.stations) (k : AttentionKind) (u : BitVec 16) :
    t.markBound h k u = { t with stations := (s.markBound h k u).stations } := by
  rw [State.markBound_eq, State.markBound_congr hbound hstations]

theorem State.markRoles_congr {s t : State} (hstations : t.stations = s.stations) (rs : List Role) (k : AttentionKind)
    (u : BitVec 16) : (t.markRoles rs k u).stations = (s.markRoles rs k u).stations := by
  rw [State.markRoles_stations, State.markRoles_stations, hstations]

theorem Station.mark_eq (k : AttentionKind) (u : BitVec 16) (x : Station) :
    x.mark k u = if x.mask.has k = true then { x with attention := addMark k u x.attention } else x := rfl

theorem State.markRoles_getElem (s : State) (rs : List Role) (k : AttentionKind) (u : BitVec 16) (i : StationId) :
    (s.markRoles rs k u).stations[i] =
      if s.stations[i].enrolled = true ∧ s.stations[i].roles.hasAny rs = true ∧ s.stations[i].mask.has k = true then
        { s.stations[i] with attention := addMark k u s.stations[i].attention }
      else s.stations[i] := by
  simp only [State.markRoles_stations, vecMap_getElem_fin, Station.mark_eq, Bool.and_eq_true, ite_and]

theorem State.markBound_getElem (s : State) (h : HandlerId) (k : AttentionKind) (u : BitVec 16) (i : StationId) :
    (s.markBound h k u).stations[i] =
      if s.handlers[h].bound = some i ∧ s.stations[i].mask.has k = true then
        { s.stations[i] with attention := addMark k u s.stations[i].attention }
      else s.stations[i] := by
  unfold State.markBound
  rw [ite_and]
  split
  · next j hj =>
    rw [State.updStation_stations, set_getElem_fin]
    by_cases hji : j = i
    · subst hji; rw [if_pos rfl, if_pos hj]; rfl
    · rw [if_neg hji, if_neg (fun e => hji (Option.some.inj (hj.symm.trans e)))]
  · next hnone => rw [if_neg (by rw [hnone]; exact nofun)]

theorem mem_addMark_of_ne {k : AttentionKind} {u : BitVec 16} {ms : List Mark} {x : Mark} (hx : x.kind ≠ k) :
    x ∈ addMark k u ms ↔ x ∈ ms := by
  refine ⟨fun h => (mem_addMark h).resolve_left hx, fun h => ?_⟩
  induction ms with
  | nil => cases h
  | cons a ms ih =>
    unfold addMark
    split
    · next ha =>
      rcases List.mem_cons.1 h with rfl | h
      · exact absurd ha hx
      · exact List.mem_cons_of_mem _ h
    · split
      · exact List.mem_cons_of_mem _ h
      · rcases List.mem_cons.1 h with rfl | h
        · exact List.mem_cons_self
        · exact List.mem_cons_of_mem _ (ih h)

/-- A kind marked before gains the units; in code order its mark is found before a later one. -/
theorem addMark_gains {k : AttentionKind} (u : BitVec 16) {ms : List Mark}
    (hms : ms.Pairwise (fun a b => a.kind.code < b.kind.code)) {x : Mark} (hx : x ∈ ms) (hk : x.kind = k) :
    ⟨k, x.units ||| u⟩ ∈ addMark k u ms := by
  induction ms with
  | nil => cases hx
  | cons a ms ih =>
    obtain ⟨ha, hrest⟩ := List.pairwise_cons.1 hms
    unfold addMark
    rcases List.mem_cons.1 hx with rfl | hx
    · rw [if_pos hk]; exact List.mem_cons_self
    · have hlt := ha x hx
      rw [hk] at hlt
      rw [if_neg (fun e => by rw [e] at hlt; exact lt_irrefl _ hlt), if_neg (by omega)]
      exact List.mem_cons_of_mem _ (ih hrest hx)

theorem addMark_new {k : AttentionKind} (u : BitVec 16) {ms : List Mark} (hms : ∀ x ∈ ms, x.kind ≠ k) :
    ⟨k, u⟩ ∈ addMark k u ms := by
  induction ms with
  | nil => exact List.mem_cons_self
  | cons a ms ih =>
    unfold addMark
    rw [if_neg (hms a List.mem_cons_self)]
    split
    · exact List.mem_cons_self
    · exact List.mem_cons_of_mem _ (ih (fun x hx => hms x (List.mem_cons_of_mem _ hx)))

/-- Settles O17: whom a marking reaches, and the attention set after it, kind by kind. -/
theorem attentionMarking : Obligations.AttentionMarking :=
  ⟨fun s rs k u => ⟨rfl, s.markRoles_getElem rs k u⟩, fun s h k u => ⟨(s.markBound_eq h k u).symm, s.markBound_getElem h k u⟩,
    fun k u _ hms => ⟨addMark_pairwise k u hms, fun _ hx hk => addMark_gains u hms hx hk, fun hno => addMark_new u hno,
      fun _ hx => mem_addMark_of_ne hx⟩⟩

/-! ### The ready conditions -/

theorem State.readyFor_iff {s : State} {h : HandlerId} {k : Slot} {l : Lot} {u : TesterId} {r : Resolved}
    (hl : s.lot? k = some l) (hu : s.handlers[h].docked = some u) (hr : l.state.resolved? = some r) :
    s.readyFor h k = true ↔
      s.testers[u].atHand r.program = true ∧ s.isReleased r.program = true ∧ s.handlers[h].thermal = .atTemp ∧
        s.handlers[h].setpoint = some (s.stepOf l).setpoint ∧ s.handlers[h].kit = some (s.stepOf l).kit := by
  unfold State.readyFor
  rw [hl, hu]
  dsimp only
  rw [hr]
  simp only [Bool.and_eq_true, decide_eq_true_eq, and_assoc]

theorem State.readyFor_free {s : State} {h : HandlerId} {k : Slot} (hu : s.handlers[h].docked = none) :
    s.readyFor h k = false := by
  unfold State.readyFor
  rw [hu]
  cases s.lot? k <;> rfl

section
variable {s : State} {h : HandlerId} {k : Slot}

theorem State.readyCheck_ready (hcell : s.handlers[h].cell = .preparing k) (hready : s.readyFor h k = true) :
    s.readyCheck h = (s.updHandler h (fun x => { x with cell := .ready k })).markBound h .readyToStart (unitBit h) := by
  unfold State.readyCheck
  rw [hcell]
  exact if_pos hready

theorem State.readyCheck_preparing (hcell : s.handlers[h].cell = .preparing k) (hno : s.readyFor h k = false) :
    s.readyCheck h = s := by
  unfold State.readyCheck
  rw [hcell]
  exact if_neg (Bool.eq_false_iff.1 hno)

theorem State.readyCheck_stays (hcell : s.handlers[h].cell = .ready k) (hready : s.readyFor h k = true) :
    s.readyCheck h = s := by
  unfold State.readyCheck
  rw [hcell]
  exact if_pos hready

theorem State.readyCheck_lost (hcell : s.handlers[h].cell = .ready k) (hno : s.readyFor h k = false) :
    s.readyCheck h = s.updHandler h (fun x => { x with cell := .preparing k }) := by
  unfold State.readyCheck
  rw [hcell]
  exact if_neg (Bool.eq_false_iff.1 hno)

theorem State.readyCheck_unchecked (hpreparing : s.handlers[h].cell.name ≠ .preparing) (hready : s.handlers[h].cell.name ≠ .ready) :
    s.readyCheck h = s := by
  unfold State.readyCheck
  split
  · next e => rw [e] at hpreparing; exact absurd rfl hpreparing
  · next e => rw [e] at hready; exact absurd rfl hready
  · rfl

end

/-- Settles O15: the check of the ready conditions by cell state and by what it reads. -/
theorem readyConditions : Obligations.ReadyConditions := by
  refine ⟨?_, fun s h k hu => ?_, fun s h => State.readyCheck_unchecked⟩
  · intro s h k l u r hl hu hr ready
    have hiff : s.readyFor h k = true ↔ ready := State.readyFor_iff hl hu hr
    have hno : ¬ ready → s.readyFor h k = false := fun hn => Bool.eq_false_iff.2 (fun hf => hn (hiff.1 hf))
    exact ⟨fun hc hy => State.readyCheck_ready hc (hiff.2 hy), fun hc hn => State.readyCheck_preparing hc (hno hn),
      fun hc hy => State.readyCheck_stays hc (hiff.2 hy), fun hc hn => State.readyCheck_lost hc (hno hn)⟩
  · exact ⟨fun hc => State.readyCheck_preparing hc (State.readyFor_free hu),
      fun hc => State.readyCheck_lost hc (State.readyFor_free hu)⟩

/-! ### The end of a load -/

section
variable {s : State} {u : TesterId} {h : HandlerId} {k : Slot} {p : Program}

theorem State.afterLoad_atHand (hdocked : s.testers[u].docked = some h) (hres : s.reservedOn h = some (k, p))
    (hhand : s.testers[u].atHand p = true) : s.afterLoad u = s.readyCheck h := by
  unfold State.afterLoad
  rw [hdocked]
  dsimp only
  rw [hres]
  exact if_pos hhand

theorem State.afterLoad_of_staged (hdocked : s.testers[u].docked = some h) (hres : s.reservedOn h = some (k, p))
    (hhand : s.testers[u].atHand p = false) {g : Staged} (hg : s.testers[u].staged = some g) :
    s.afterLoad u =
      if g.program = p then if g.attempts < 3 then s.startLoad u p (g.attempts + 1) else s.cancelReservation k false
      else s.startLoad u p 1 := by
  unfold State.afterLoad
  rw [hdocked]
  dsimp only
  rw [hres]
  dsimp only
  rw [if_neg (Bool.eq_false_iff.1 hhand), hg]
  rfl

theorem State.afterLoad_of_empty (hdocked : s.testers[u].docked = some h) (hres : s.reservedOn h = some (k, p))
    (hhand : s.testers[u].atHand p = false) (hg : s.testers[u].staged = none) : s.afterLoad u = s.startLoad u p 1 := by
  unfold State.afterLoad
  rw [hdocked]
  dsimp only
  rw [hres]
  dsimp only
  rw [if_neg (Bool.eq_false_iff.1 hhand), hg]

end

theorem State.reservedOn_some {s : State} {h : HandlerId} {k : Slot} {p : Program} :
    s.reservedOn h = some (k, p) ↔
      s.handlers[h].cell.reserved = some k ∧ ∃ l r, s.lot? k = some l ∧ l.state.resolved? = some r ∧ r.program = p := by
  unfold State.reservedOn
  split
  · next j hj =>
    rw [hj]
    split
    · next l hl =>
      rw [Option.map_eq_some_iff]
      constructor
      · rintro ⟨r, hr, e⟩
        obtain ⟨rfl, rfl⟩ := Prod.mk.inj e
        exact ⟨rfl, l, r, hl, hr, rfl⟩
      · rintro ⟨e, l', r, hl', hr, rfl⟩
        cases e
        rw [hl] at hl'
        cases hl'
        exact ⟨r, hr, rfl⟩
    · next hl =>
      refine iff_of_false nofun ?_
      rintro ⟨e, l', r, hl', -⟩
      cases e
      rw [hl] at hl'
      cases hl'
  · next hnone => exact iff_of_false nofun (fun hs => by rw [hnone] at hs; cases hs.1)

theorem State.startLoad_of_revision {s : State} {p : Program} {e : LibraryEntry} (he : s.revision? p = some e) (u : TesterId)
    (n : Nat) : s.startLoad u p n =
      match s.testers[u].docked with
      | some h => (s.updTester u (fun x => { x with staged := some (loadOf e p n) })).markBound h .stageRequest (unitBit h)
      | none => s.updTester u (fun x => { x with staged := some (loadOf e p n) }) := by
  unfold State.startLoad
  rw [he] <;> rfl

/-- Settles O14: what follows a load by the slot it leaves, and the load itself. -/
theorem afterALoadEnds : Obligations.AfterALoadEnds := by
  refine ⟨fun s u h k p hdocked hres => ⟨State.afterLoad_atHand hdocked hres, ?_, ?_, ?_⟩, fun s u hno => ?_,
    fun s h k p => State.reservedOn_some, fun s u p e n he => ⟨fun hnone => ?_, fun h hsome => ?_⟩⟩
  · intro hhand g hg hp hlow
    rw [State.afterLoad_of_staged hdocked hres hhand hg, if_pos hp, if_pos hlow]
  · intro hhand g hg hp htop
    rw [State.afterLoad_of_staged hdocked hres hhand hg, if_pos hp, if_neg (by omega)]
  · intro hhand hother
    cases hg : s.testers[u].staged with
    | none => exact State.afterLoad_of_empty hdocked hres hhand hg
    | some g => rw [State.afterLoad_of_staged hdocked hres hhand hg, if_neg (hother g hg)]
  · cases hd : s.testers[u].docked with
    | none => exact State.afterLoad_free hd
    | some h => exact State.afterLoad_unreserved hd (hno h hd)
  · rw [State.startLoad_of_revision he, hnone]
    rfl
  · rw [State.startLoad_of_revision he, hsome]
    rfl

/-! ### Reservations cancelled, and holds added -/

theorem State.updPending_eq (s : State) (d : Option DevId) (f : Nat → Nat) :
    s.updPending d f = { s with deviations := (s.updPending d f).deviations } := by
  unfold State.updPending
  split <;> rfl

theorem State.updPending_congr {s t : State} (h : t.deviations = s.deviations) (d : Option DevId) (f : Nat → Nat) :
    (t.updPending d f).deviations = (s.updPending d f).deviations := by
  unfold State.updPending
  cases d with
  | some i => rw [State.updDeviation_deviations, State.updDeviation_deviations, h]
  | none => exact h

theorem State.updHandler_bound (s : State) (h : HandlerId) {f : Handler → Handler} (hf : ∀ x, (f x).bound = x.bound)
    (g : HandlerId) : (s.updHandler h f).handlers[g].bound = s.handlers[g].bound := by
  rw [State.updHandler_handlers, set_getElem_fin]
  split
  · next e => subst e; exact hf _
  · rfl

/-- The cancellation of a reservation, table by table (R61). -/
theorem State.cancelReservation_eq {s : State} {k : Slot} {l : Lot} {w : Wait} {h : HandlerId} {r : Resolved}
    (hl : s.lot? k = some l) (hstate : l.state = .reserved w h r) (held : Bool) :
    s.cancelReservation k held =
      { s with
        lots := (s.setLotState k (if held then .held else .queued w)).lots
        handlers := s.handlers.set h (Handler.dropReserved s.handlers[h])
        deviations := (s.updPending r.deviation (fun n => n - 1)).deviations
        stations := (s.markBound h .reservationCancelled (unitBit h)).stations } := by
  unfold State.cancelReservation
  rw [hl]
  dsimp only
  rw [hstate]
  dsimp only
  rw [State.updPending_eq]
  refine Eq.trans (State.markBound_of (s := s) ?_ ?_ _ _) rfl
  · exact State.updHandler_bound _ h (f := Handler.dropReserved) (fun _ => rfl) h
  · rfl

theorem State.addHold_of_lot {s : State} {k : Slot} {l : Lot} (hl : s.lot? k = some l) (r : HoldReason)
    (who : Option StationId) (gs : BitVec 4) :
    s.addHold k r who gs =
      if l.hasHold r then (s, false)
      else ((s.updLot k (fun l => { l with holds := insertHold ⟨r, s.floorTime, who, gs⟩ l.holds })).holdMarked, true) := by
  unfold State.addHold
  rw [hl]
  rfl

theorem addMark_addMark (k : AttentionKind) (u : BitVec 16) (ms : List Mark) :
    addMark k u (addMark k u ms) = addMark k u ms := by
  have hhead : ∀ v : BitVec 16, v ||| u ||| u = v ||| u := fun v => by rw [BitVec.or_assoc, BitVec.or_self]
  induction ms with
  | nil => simp [addMark]
  | cons a ms ih =>
    rw [addMark]
    split
    · rw [addMark, if_pos rfl]; simp only [hhead]
    · next hne =>
      split
      · rw [addMark, if_pos rfl, BitVec.or_self]
      · next hnlt => rw [addMark, if_neg hne, if_neg hnlt, ih]

/-- Marking the same kind for the same roles twice is marking it once. -/
theorem State.markRoles_markRoles (s : State) (rs : List Role) (k : AttentionKind) (u : BitVec 16) :
    (s.markRoles rs k u).markRoles rs k u = s.markRoles rs k u := by
  have hstations : ((s.markRoles rs k u).markRoles rs k u).stations = (s.markRoles rs k u).stations := by
    refine Vector.ext fun i hi => ?_
    have hfin := (s.markRoles rs k u).markRoles_getElem rs k u ⟨i, hi⟩
    have hfin' := s.markRoles_getElem rs k u ⟨i, hi⟩
    simp only [Fin.getElem_fin] at hfin hfin'
    rw [hfin, hfin']
    split
    · simp only [addMark_addMark]
    · rfl
  rw [State.markRoles_eq, hstations]

end Sys2Proof.Machine
end

section
/-! SUPPORT. With the slots in order: holds placed, reservations made and cancelled, setups applied, the expiry of a queue time
and the line reset, each as the state it leaves. -/

namespace Sys2Proof.Machine

/-! ### Records replaced -/

/-- A lot with an entry more in its hold set. -/
def Lot.withHold (l : Lot) (e : HoldEntry) : Lot := { l with holds := insertHold e l.holds }

section
variable {s : State} {l : Lot}

theorem State.SlotsInOrder.setLotState_eq (hs : s.SlotsInOrder) (hl : s.lot? l.slot = some l) (x : LotState) :
    s.setLotState l.slot x = s.putLot { l with state := x } := hs.updLot_eq hl (fun l => { l with state := x }) rfl

theorem State.SlotsInOrder.addHold_eq (hs : s.SlotsInOrder) (hl : s.lot? l.slot = some l) {r : HoldReason}
    (hno : l.hasHold r = false) (who : Option StationId) (gs : BitVec 4) :
    s.addHold l.slot r who gs =
      (s.holdMarked.putLot (l.withHold ⟨r, s.floorTime, who, gs⟩), true) := by
  rw [State.addHold_of_lot hl, if_neg (Bool.eq_false_iff.1 hno),
    hs.updLot_eq hl (fun l => { l with holds := insertHold ⟨r, s.floorTime, who, gs⟩ l.holds }) rfl]
  rfl

theorem State.SlotsInOrder.holdMarked (hs : s.SlotsInOrder) : s.holdMarked.SlotsInOrder := hs

/-- The record put last is the one that counts, and its slot reads as it. -/
theorem State.SlotsInOrder.setLotState_putLot (hs : s.SlotsInOrder) (hl : s.lot? l.slot = some l) {x : Lot}
    (hx : x.slot = l.slot) (y : LotState) : (s.putLot x).setLotState l.slot y = s.putLot { x with state := y } := by
  have hput : (s.putLot x).lot? x.slot = some x := hs.lot?_putLot (x := l) (by rw [hx]; exact hl)
  rw [← hx, (hs.putLot x).setLotState_eq hput]
  exact State.putLot_putLot _ _ _ rfl

theorem State.SlotsInOrder.updLot_putLot (hs : s.SlotsInOrder) (hl : s.lot? l.slot = some l) {x : Lot}
    (hx : x.slot = l.slot) {f : Lot → Lot} (hf : ∀ y : Lot, (f y).slot = y.slot) :
    (s.putLot x).updLot l.slot f = s.putLot (f x) := by
  have hput : (s.putLot x).lot? x.slot = some x := hs.lot?_putLot (x := l) (by rw [hx]; exact hl)
  rw [← hx, (hs.putLot x).updLot_eq hput f (hf x), State.putLot_putLot _ _ _ (hf x).symm]

end

/-! ### Holds -/

theorem mem_insertHold {e x : HoldEntry} {es : List HoldEntry} : x ∈ insertHold e es ↔ x = e ∨ x ∈ es := by
  induction es with
  | nil => simp [insertHold]
  | cons a es ih =>
    unfold insertHold
    split
    · rw [List.mem_cons]
    · rw [List.mem_cons, ih, List.mem_cons]; tauto

theorem HoldReason.all_code (r : HoldReason) : HoldReason.all[r.code]? = some r := by cases r <;> rfl

theorem HoldReason.code_injective {a b : HoldReason} (h : a.code = b.code) : a = b :=
  Option.some.inj (by rw [← a.all_code, ← b.all_code, h])

theorem insertHold_pairwise {e : HoldEntry} {es : List HoldEntry} (hes : es.Pairwise (fun a b => a.reason.code < b.reason.code))
    (hno : ∀ x ∈ es, x.reason ≠ e.reason) : (insertHold e es).Pairwise (fun a b => a.reason.code < b.reason.code) := by
  induction es with
  | nil => exact List.pairwise_singleton _ _
  | cons a es ih =>
    obtain ⟨ha, hrest⟩ := List.pairwise_cons.1 hes
    unfold insertHold
    split
    · next hlt =>
      refine List.pairwise_cons.2 ⟨fun b hb => ?_, hes⟩
      rcases List.mem_cons.1 hb with rfl | hb
      · exact hlt
      · exact hlt.trans (ha b hb)
    · next hnlt =>
      have hne : a.reason.code ≠ e.reason.code := fun h => hno a List.mem_cons_self (HoldReason.code_injective h)
      refine List.pairwise_cons.2 ⟨fun b hb => ?_, ih hrest (fun x hx => hno x (List.mem_cons_of_mem _ hx))⟩
      rcases mem_insertHold.1 hb with rfl | hb
      · omega
      · exact ha b hb

theorem Cell.drain_posts (c : Cell) :
    c.drain.current = c.current ∧ c.drain.reserved = c.reserved ∧ (c.name = .running → c.drain.name = .draining) := by
  cases c <;> exact ⟨rfl, rfl, by simp [Cell.name, Cell.drain]⟩

section
variable {s : State} {l : Lot} {r : HoldReason} (who : Option StationId) (gs : BitVec 4)

theorem State.placeHold_refused (hl : s.lot? l.slot = some l) (hno : l.hasHold r = true ∨ l.state = .scrapped) :
    s.placeHold l.slot r who gs = (s, false) := by
  unfold State.placeHold
  rw [hl]
  refine if_pos ?_
  rw [Bool.or_eq_true, decide_eq_true_eq]
  exact hno

/-- A reason that is placed adds its entry, and the lot then moves from the state it is in (R133 to R137). -/
theorem State.SlotsInOrder.placeHold_eq (hs : s.SlotsInOrder) (hl : s.lot? l.slot = some l) (hno : l.hasHold r = false)
    (hlive : l.state ≠ .scrapped) :
    s.placeHold l.slot r who gs =
      (match l.state with
        | .queued _ => s.holdMarked.putLot { l.withHold ⟨r, s.floorTime, who, gs⟩ with state := .held }
        | .reserved _ _ _ => (s.holdMarked.putLot (l.withHold ⟨r, s.floorTime, who, gs⟩)).cancelReservation l.slot true
        | .running h q => (s.holdMarked.putLot (l.withHold ⟨r, s.floorTime, who, gs⟩)).startDrain l.slot h q r
        | .complete _ =>
          s.holdMarked.putLot { l.withHold ⟨r, s.floorTime, who, gs⟩ with state := .held, endorsements := [] }
        | .released => (s.holdMarked.putLot (l.withHold ⟨r, s.floorTime, who, gs⟩)).recall l.slot
        | _ => s.holdMarked.putLot (l.withHold ⟨r, s.floorTime, who, gs⟩), true) := by
  unfold State.placeHold
  rw [hl]
  dsimp only
  rw [if_neg (by rw [hno, Bool.false_or, decide_eq_true_eq]; exact hlive), hs.addHold_eq hl hno]
  cases hstate : l.state with
  | queued w => exact congrArg (·, true) (hs.holdMarked.setLotState_putLot hl (x := l.withHold _) rfl .held)
  | complete w =>
    exact congrArg (·, true) (hs.holdMarked.updLot_putLot hl (x := l.withHold _) rfl
      (f := fun l => { l with state := .held, endorsements := [] }) (fun _ => rfl))
  | reserved | running | draining | held | released | scrapped => rfl

/-- The lot of a slot, once its record has been put. -/
theorem State.SlotsInOrder.lot?_holdMarked_putLot (hs : s.SlotsInOrder) (hl : s.lot? l.slot = some l) {x : Lot}
    (hx : x.slot = l.slot) : (s.holdMarked.putLot x).lot? l.slot = some x := by
  rw [← hx]
  exact hs.holdMarked.lot?_putLot (x := l) (by rw [hx]; exact hl)

/-- The reservation of a lot whose record has just been put, cancelled for a hold. -/
theorem State.SlotsInOrder.cancelReservation_putLot (hs : s.SlotsInOrder) (hl : s.lot? l.slot = some l) {x : Lot}
    (hx : x.slot = l.slot) {w : Wait} {h : HandlerId} {q : Resolved} (hstate : x.state = .reserved w h q) :
    (s.holdMarked.putLot x).cancelReservation l.slot true =
      ({ s.holdMarked.putLot { x with state := .held } with
          handlers := s.handlers.set h s.handlers[h].dropReserved
          deviations := (s.updPending q.deviation (fun n => n - 1)).deviations }).markBound h .reservationCancelled
        (unitBit h) := by
  rw [State.cancelReservation_eq (hs.lot?_holdMarked_putLot hl hx) hstate true, if_pos rfl,
    hs.holdMarked.setLotState_putLot hl hx,
    State.updPending_congr (s := s) (t := s.holdMarked.putLot x) rfl,
    State.markBound_of (s := s.holdMarked.putLot x)
      (t := { s.holdMarked.putLot { x with state := .held } with
          handlers := s.handlers.set h s.handlers[h].dropReserved
          deviations := (s.updPending q.deviation (fun n => n - 1)).deviations })
      (State.updHandler_bound s h (f := Handler.dropReserved) (fun _ => rfl) h) rfl]
  rfl

theorem State.SlotsInOrder.startDrain_putLot (hs : s.SlotsInOrder) (hl : s.lot? l.slot = some l) {x : Lot}
    (hx : x.slot = l.slot) (h : HandlerId) (q : Resolved) :
    (s.holdMarked.putLot x).startDrain l.slot h q r =
      ({ s.holdMarked.putLot { x with state := .draining h q r } with
          handlers := s.handlers.set h
            { s.handlers[h] with cell := s.handlers[h].cell.drain, stalled := false } }).markBound h .stop (unitBit h) := by
  unfold State.startDrain
  rw [hs.holdMarked.setLotState_putLot hl hx]
  rfl

theorem State.SlotsInOrder.recall_putLot (hs : s.SlotsInOrder) (hl : s.lot? l.slot = some l) {x : Lot}
    (hx : x.slot = l.slot) :
    (s.holdMarked.putLot x).recall l.slot =
      ({ s.holdMarked.putLot { x with state := .held, endorsements := [] } with
          releaseQueue := s.releaseQueue.filter (fun y => y.slot ≠ l.slot) }).offerPlace := by
  unfold State.recall
  have hput := hs.holdMarked.updLot_putLot hl hx (f := fun l => { l with state := .held, endorsements := [] }) (fun _ => rfl)
  have hdrop : ((s.holdMarked.putLot x).dropRecord l.slot).updLot l.slot (fun l => { l with state := .held, endorsements := [] }) =
      ((s.holdMarked.putLot x).updLot l.slot (fun l => { l with state := .held, endorsements := [] })).dropRecord l.slot := rfl
  rw [hdrop, hput]
  rfl

end

/-- Settles O27: the hold set in the order of the reasons, and the placing of a reason by the lot's state. -/
theorem placingAReason : Obligations.PlacingAReason := by
  refine ⟨fun e es hes hno => ⟨insertHold_pairwise hes hno, fun x => mem_insertHold⟩, Cell.drain_posts, ?_⟩
  intro s k l r who gs hs hl held
  obtain rfl := State.lot?_slot hl
  refine ⟨State.placeHold_refused who gs hl, fun hno => ?_⟩
  have placed := fun hlive : l.state ≠ .scrapped => hs.placeHold_eq who gs hl hno hlive
  refine ⟨fun w hw => ?_, fun w h q hw => ?_, fun h q hw => ?_, fun hw => ?_, fun w hw => ?_, fun hw => ?_⟩
  · rw [placed (by rw [hw]; nofun), hw]; rfl
  · rw [placed (by rw [hw]; nofun), hw]
    exact congrArg (·, true) (hs.cancelReservation_putLot hl (x := held) rfl hw)
  · rw [placed (by rw [hw]; nofun), hw]
    exact congrArg (·, true) (hs.startDrain_putLot hl (x := held) rfl h q)
  · have hlive : l.state ≠ .scrapped := by rintro e; rw [e] at hw; simp [LotState.name] at hw
    rw [placed hlive]
    cases hstate : l.state <;> simp [hstate, LotState.name] at hw <;> rfl
  · rw [placed (by rw [hw]; nofun), hw]; rfl
  · rw [placed (by rw [hw]; nofun), hw]
    exact congrArg (·, true) (hs.recall_putLot hl (x := held) rfl)

/-! ### The expiry of a queue time -/

theorem Lot.hasHold_of_empty {l : Lot} (h : l.holds = []) (r : HoldReason) : l.hasHold r = false := by
  rw [Lot.hasHold, h]
  rfl

theorem State.queueTimeExpiry_due {s : State} {k : Slot} {l : Lot} {w : Wait} (hl : s.lot? k = some l)
    (hw : l.state.wait? = some w) (hzero : w.left = some 0) :
    s.queueTimeExpiry k = ((s.updLot k Lot.stopCountdown).placeHold k .queueTime none 0).1 := by
  unfold State.queueTimeExpiry
  rw [hl]
  refine if_pos ?_
  rw [Lot.queueTimeDue, hw]
  exact decide_eq_true hzero

/-- The lots of a state whose one lot has been replaced, as a change of the lot of its slot. -/
theorem State.SlotsInOrder.putLot_lots {s : State} (hs : s.SlotsInOrder) {l : Lot} (hl : s.lot? l.slot = some l) {f : Lot → Lot}
    (hf : (f l).slot = l.slot) : (s.putLot (f l)).lots = s.lots.map (fun x => if x.slot = l.slot then f x else x) := by
  rw [← hs.updLot_eq hl f hf]
  rfl

/-- Settles O12: the countdown stops, and the hold then finds a lot that is otherwise as it was. -/
theorem queueTimeExpiry_holds : Obligations.QueueTimeExpiry := by
  intro s k l w hreset hs hl hholds hzero held marked
  obtain rfl := State.lot?_slot hl
  have hlots : (s.putLot { l with state := .held, holds := [⟨.queueTime, s.floorTime, none, 0⟩] }).lots = held :=
    hs.putLot_lots hl (f := fun x => { x with state := .held, holds := [⟨.queueTime, s.floorTime, none, 0⟩] }) rfl
  have expires : ∀ x : Lot, x.slot = l.slot → l.stopCountdown = x → l.state.wait? = some w →
      exec (.queueTimeExpiry l.slot) s = .next ((s.putLot x).placeHold x.slot .queueTime none 0).1 ∧
        (s.putLot x).lot? x.slot = some x := by
    intro x hslot hx hw
    rw [exec_queueTimeExpiry_of_not_inReset hreset, State.queueTimeExpiry_due hl hw hzero,
      hs.updLot_eq hl Lot.stopCountdown l.stopCountdown_name.1, hx, hslot]
    exact ⟨rfl, by rw [← hslot]; exact hs.lot?_putLot (by rw [hslot]; exact hl)⟩
  have put : ∀ x y : Lot, x.slot = y.slot → (s.putLot x).holdMarked.putLot y = s.holdMarked.putLot y := fun x y h =>
    s.holdMarked.putLot_putLot x y h
  refine ⟨fun hstate => ?_, fun h r hstate => ?_⟩
  · obtain ⟨hexec, hput⟩ := expires { l with state := .queued { w with left := none } } rfl
      (by rw [Lot.stopCountdown, hstate]) (by rw [hstate]; rfl)
    rw [hexec, (hs.putLot _).placeHold_eq none 0 hput (Lot.hasHold_of_empty hholds _) nofun]
    dsimp only
    rw [put _ _ (by rfl), ← hlots, Lot.withHold, hholds]
    rfl
  · obtain ⟨hexec, hput⟩ := expires { l with state := .reserved { w with left := none } h r } rfl
      (by rw [Lot.stopCountdown, hstate]) (by rw [hstate]; rfl)
    rw [hexec, (hs.putLot _).placeHold_eq none 0 hput (Lot.hasHold_of_empty hholds _) nofun]
    dsimp only
    rw [(hs.putLot _).cancelReservation_putLot hput (x := Lot.withHold _ _) (by rfl) (by rfl), put _ _ (by rfl),
      State.updPending_congr (s := s) (t := s.putLot _) (by rfl)]
    refine (congrArg Host.Outcome.next (State.markBound_of (s := marked) ?_ (by rfl) _ _)).trans ?_
    · exact State.updHandler_bound s h (f := Handler.dropReserved) (fun _ => rfl) h
    · rw [← hlots, Lot.withHold, hholds]
      rfl

/-! ### The line reset -/

/-- A lot with INTERRUPTED in its hold set. -/
def Lot.interrupted (t : Time) (l : Lot) : Lot :=
  if l.hasHold .interrupted then l else l.withHold ⟨.interrupted, t, none, 0⟩

/-- INTERRUPTED placed on some lots of the table: their records, and one marking where an entry was added. -/
theorem foldl_addHold_interrupted (ls : List Lot) (s : State) (hs : s.SlotsInOrder) (hls : ∀ l ∈ ls, l ∈ s.lots)
    (hdistinct : ls.Pairwise (fun a b => a.slot < b.slot)) :
    ls.foldl (fun s l => (s.addHold l.slot .interrupted none 0).1) s =
      { s with
        lots := s.lots.map (fun x => if x.slot ∈ ls.map (·.slot) then x.interrupted s.floorTime else x)
        stations := if ls.any (fun l => !l.hasHold .interrupted) then s.holdMarked.stations else s.stations } := by
  induction ls generalizing s with
  | nil => simp
  | cons l ls ih =>
    obtain ⟨hfirst, hrest⟩ := List.pairwise_cons.1 hdistinct
    have hl : s.lot? l.slot = some l := State.lot?_of_mem hs (hls l List.mem_cons_self)
    have hnot : l.slot ∉ ls.map (·.slot) := fun hmem => by
      obtain ⟨x, hx, e⟩ := List.mem_map.1 hmem
      exact absurd (hfirst x hx) (by rw [e]; exact lt_irrefl _)
    have hwas : ∀ x ∈ s.lots, x.slot = l.slot → x = l := fun x hx e =>
      hs.eq_of_slot hx (hls l List.mem_cons_self) e
    rw [List.foldl_cons]
    by_cases hheld : l.hasHold .interrupted = true
    · rw [State.addHold_of_lot hl, if_pos hheld, ih s hs (fun x hx => hls x (List.mem_cons_of_mem _ hx)) hrest]
      have hlots : s.lots.map (fun x => if x.slot ∈ ls.map (·.slot) then x.interrupted s.floorTime else x) =
          s.lots.map (fun x => if x.slot ∈ (l :: ls).map (·.slot) then x.interrupted s.floorTime else x) :=
        List.map_congr_left fun x hx => by
          by_cases hxl : x.slot = l.slot
          · rw [if_neg (by rw [hxl]; exact hnot), if_pos (by rw [List.map_cons, hxl]; exact List.mem_cons_self), hwas x hx hxl,
              Lot.interrupted, if_pos hheld]
          · simp only [List.map_cons, List.mem_cons, hxl, false_or]
      rw [hlots, List.any_cons, hheld]
      rfl
    · have hno : l.hasHold .interrupted = false := Bool.eq_false_iff.2 hheld
      have hothers : ∀ x ∈ ls, x ∈ (s.holdMarked.putLot (l.interrupted s.floorTime)).lots := fun x hx => by
        have hne : x.slot ≠ (l.interrupted s.floorTime).slot := by
          rw [Lot.interrupted, if_neg hheld]
          exact fun e => hnot (List.mem_map.2 ⟨x, hx, e⟩)
        exact List.mem_map.2 ⟨x, hls x (List.mem_cons_of_mem _ hx), if_neg hne⟩
      have hput : (s.addHold l.slot .interrupted none 0).1 = s.holdMarked.putLot (l.interrupted s.floorTime) := by
        rw [hs.addHold_eq hl hno, Lot.interrupted, if_neg hheld]
      rw [hput, ih _ (hs.holdMarked.putLot _) hothers hrest]
      have hlots : (s.holdMarked.putLot (l.interrupted s.floorTime)).lots.map
            (fun x => if x.slot ∈ ls.map (·.slot) then x.interrupted s.floorTime else x) =
          s.lots.map (fun x => if x.slot ∈ (l :: ls).map (·.slot) then x.interrupted s.floorTime else x) := by
        have hslot : (l.interrupted s.floorTime).slot = l.slot := by rw [Lot.interrupted, if_neg hheld]; rfl
        rw [State.putLot, List.map_map]
        refine List.map_congr_left fun x hx => ?_
        rw [Function.comp, hslot]
        by_cases hxl : x.slot = l.slot
        · rw [if_pos hxl, hslot, if_neg hnot, if_pos (by rw [List.map_cons, hxl]; exact List.mem_cons_self), hwas x hx hxl]
        · rw [if_neg hxl]
          simp only [List.map_cons, List.mem_cons, hxl, false_or]
      have hmarked : s.holdMarked.holdMarked = s.holdMarked := s.markRoles_markRoles [.quality, .floor] .holdPlaced 0
      have htwice : (s.holdMarked.putLot (l.interrupted s.floorTime)).holdMarked.stations = s.holdMarked.stations :=
        (congrArg State.stations hmarked : s.holdMarked.holdMarked.stations = s.holdMarked.stations)
      have hstations : (if ls.any (fun l => !l.hasHold .interrupted) then
            (s.holdMarked.putLot (l.interrupted s.floorTime)).holdMarked.stations
          else (s.holdMarked.putLot (l.interrupted s.floorTime)).stations) =
          if (l :: ls).any (fun l => !l.hasHold .interrupted) then s.holdMarked.stations else s.stations := by
        rw [htwice, List.any_cons, hno, Bool.not_false, Bool.true_or, if_pos rfl]
        exact ite_self _
      rw [← hlots, ← hstations]
      rfl

theorem Lot.onHandler_iff (l : Lot) : l.onHandler = true ↔ l.state.name = .running ∨ l.state.name = .draining := by
  unfold Lot.onHandler
  cases l.state <;> simp [LotState.currentHandler?, LotState.name]

/-- INTERRUPTED placed on every RUNNING or DRAINING lot of the table. -/
theorem State.SlotsInOrder.placeInterrupted_eq {s : State} (hs : s.SlotsInOrder) :
    s.placeInterrupted =
      { s with
        lots := s.lots.map (fun x => if x.onHandler then x.interrupted s.floorTime else x)
        stations := if s.lots.any (fun l => l.onHandler && !l.hasHold .interrupted) then s.holdMarked.stations
          else s.stations } := by
  rw [State.placeInterrupted, foldl_addHold_interrupted _ s hs (fun l hl => List.mem_of_mem_filter hl) (hs.filter _)]
  have hlots : s.lots.map (fun x => if x.slot ∈ (s.lots.filter Lot.onHandler).map (·.slot) then x.interrupted s.floorTime else x) =
      s.lots.map (fun x => if x.onHandler then x.interrupted s.floorTime else x) :=
    List.map_congr_left fun x hx => by
      have hiff : x.slot ∈ (s.lots.filter Lot.onHandler).map (·.slot) ↔ x.onHandler = true := by
        constructor
        · intro hmem
          obtain ⟨y, hy, e⟩ := List.mem_map.1 hmem
          obtain ⟨hy, hon⟩ := List.mem_filter.1 hy
          exact hs.eq_of_slot hy hx e ▸ hon
        · exact fun hon => List.mem_map.2 ⟨x, List.mem_filter.2 ⟨hx, hon⟩, rfl⟩
      simp only [hiff]
  rw [hlots, List.any_filter]

/-- A lot of a handler after a line reset: HELD, interrupted, its run ended. -/
theorem Lot.afterLineReset_interrupted {l : Lot} (hon : l.onHandler = true) (t : Time) :
    (l.interrupted t).afterLineReset t =
      { l with
        state := .held
        holds := if l.hasHold .interrupted then l.holds else insertHold ⟨.interrupted, t, none, 0⟩ l.holds
        cur := { l.cur with runs := endRun t l.cur.runs } } := by
  have hstate : (l.interrupted t).state = l.state := by unfold Lot.interrupted; split <;> rfl
  have hends : (l.interrupted t).afterLineReset t =
      { l.interrupted t with state := .held, cur := { (l.interrupted t).cur with runs := endRun t (l.interrupted t).cur.runs } } := by
    rw [Lot.onHandler, ← hstate] at hon
    unfold Lot.afterLineReset
    cases h : (l.interrupted t).state <;> simp [h, LotState.currentHandler?] at hon <;> rfl
  rw [hends]
  unfold Lot.interrupted
  split <;> rfl

/-- Settles O4: INTERRUPTED is placed first, and each table is then swept. -/
theorem lineReset : Obligations.LineReset := by
  intro s hreset hs
  have hexec : exec .lineReset s = .next s.lineReset := if_neg (by rw [hreset]; decide)
  rw [hexec, State.lineReset, hs.placeInterrupted_eq]
  have hlots : (s.lots.map (fun x => if x.onHandler then x.interrupted s.floorTime else x)).map (Lot.afterLineReset s.floorTime) =
      s.lots.map (fun l =>
          match l.state with
          | .running _ _ | .draining _ _ _ =>
            { l with
              state := .held
              holds := if l.hasHold .interrupted then l.holds else insertHold ⟨.interrupted, s.floorTime, none, 0⟩ l.holds
              cur := { l.cur with runs := endRun s.floorTime l.cur.runs } }
          | .reserved w _ _ => { l with state := .queued w }
          | _ => l) := by
    rw [List.map_map]
    refine List.map_congr_left fun l _ => ?_
    rw [Function.comp]
    by_cases hon : l.onHandler = true
    · rw [if_pos hon, Lot.afterLineReset_interrupted hon]
      rw [Lot.onHandler] at hon
      cases h : l.state <;> simp [h, LotState.currentHandler?] at hon <;> rfl
    · rw [if_neg hon, Lot.afterLineReset]
      rw [Lot.onHandler] at hon
      cases h : l.state <;> simp [h, LotState.currentHandler?] at hon <;> rfl
  have hany : s.lots.any (fun l => l.onHandler && !l.hasHold .interrupted) =
      s.lots.any (fun l => (l.state.name = .running || l.state.name = .draining) && !l.hasHold .interrupted) := by
    congr 1
    funext l
    rw [show l.onHandler = (decide (l.state.name = .running) || decide (l.state.name = .draining)) from
      Bool.eq_iff_iff.2 (by simp [l.onHandler_iff])]
  dsimp only
  rw [hlots, hany, holdAt_eq]
  rfl

end Sys2Proof.Machine
end

section
/-! SUPPORT. Reservations, setups and staging, and the handler that a lot leaves. -/

namespace Sys2Proof.Machine

/-! ### Reservations made and cancelled -/

/-- The deviations with the pending count of an entry changed, entry by entry. -/
theorem State.updPending_deviations (s : State) (d : Option DevId) (f : Nat → Nat) :
    (s.updPending d f).deviations = match d with
      | none => s.deviations
      | some i => s.deviations.set i (s.deviations[i].map (fun e => { e with pending := f e.pending })) := by
  cases d <;> rfl

section
variable {s : State} {l : Lot}

/-- A reservation, table by table, up to the staging of its program (R56). -/
theorem State.SlotsInOrder.reserve_eq (hs : s.SlotsInOrder) (hl : s.lot? l.slot = some l) {w : Wait} (hw : l.state = .queued w)
    (h : HandlerId) {u : TesterId} (hu : s.handlers[h].docked = some u) :
    s.reserve h l =
      (let t : State := { s.putLot { l with state := .reserved w h (s.resolve l) } with
          deviations := (s.updPending (s.resolve l).deviation (fun n => n + 1)).deviations
          handlers := s.handlers.set h { s.handlers[h] with cell := s.handlers[h].cell.takeReserved l.slot } }
        if s.handlers[h].cell.current.isSome then t.beginStaging u (s.resolve l).program
        else ((t.beginStaging u (s.resolve l).program).applySetup h l.slot).readyCheck h) := by
  unfold State.reserve
  conv_lhs => rw [hw]; dsimp only; rw [hu]
  rw [hs.setLotState_eq hl, State.updPending_eq (s.putLot _),
    State.updPending_congr (s := s) (t := s.putLot _) (by rfl)]
  rfl

/-- The cancellation of a reservation, in terms of the record put (R61). -/
theorem State.SlotsInOrder.cancelReservation_eq (hs : s.SlotsInOrder) (hl : s.lot? l.slot = some l) {w : Wait} {h : HandlerId}
    {r : Resolved} (hstate : l.state = .reserved w h r) (held : Bool) :
    s.cancelReservation l.slot held =
      ({ s.putLot { l with state := if held then .held else .queued w } with
          deviations := (s.updPending r.deviation (fun n => n - 1)).deviations
          handlers := s.handlers.set h s.handlers[h].dropReserved }).markBound h .reservationCancelled (unitBit h) := by
  rw [State.cancelReservation_eq hl hstate, hs.setLotState_eq hl]
  refine Eq.symm ((State.markBound_of (s := s) ?_ (by rfl) _ _).trans rfl)
  exact State.updHandler_bound s h (f := Handler.dropReserved) (fun _ => rfl) h

end

/-- Settles O36: the two operations, cell by cell. -/
theorem reservationMadeAndCancelled : Obligations.ReservationMadeAndCancelled := by
  refine ⟨?_, ?_⟩
  · intro s h l w u hs hl hw hu base
    have hbase : ∀ c, base c = { s.putLot { l with state := .reserved w h (s.resolve l) } with
        deviations := (s.updPending (s.resolve l).deviation (fun n => n + 1)).deviations
        handlers := s.handlers.set h { s.handlers[h] with cell := c } } := fun c => by
      rw [State.updPending_deviations] <;> rfl
    refine ⟨fun hidle => ?_, fun k hrunning => ?_⟩
    · rw [hs.reserve_eq hl hw h hu, hbase, hidle]
      rfl
    · rw [hs.reserve_eq hl hw h hu, hbase, hrunning]
      rfl
  · intro s h l w r held hs hl hstate undone
    have hundone : ∀ c kit, undone c kit = { s.putLot { l with state := if held then .held else .queued w } with
        deviations := (s.updPending r.deviation (fun n => n - 1)).deviations
        handlers := s.handlers.set h { s.handlers[h] with cell := c, requiredKit := kit } } := fun c kit => by
      rw [State.updPending_deviations] <;> rfl
    have hcancel := hs.cancelReservation_eq hl hstate held
    refine ⟨fun hcell => ?_, fun k hcell => ?_, fun k hcell => ?_⟩
    · have hdrop : s.handlers[h].dropReserved = { s.handlers[h] with cell := .idle, requiredKit := none } := by
        rcases hcell with hcell | hcell <;> rw [Handler.dropReserved, hcell] <;> rfl
      rw [hcancel, hundone, hdrop]
    · rw [hcancel, hundone, Handler.dropReserved, hcell]
      rfl
    · rw [hcancel, hundone, Handler.dropReserved, hcell]
      rfl

/-! ### The setup of a reserved lot -/

/-- The handler of a setup with its new target, before the marks. -/
theorem State.applySetup_eq {s : State} {k : Slot} {l : Lot} (hl : s.lot? k = some l) (h : HandlerId) :
    s.applySetup h k =
      (let t : Target := ⟨(s.stepOf l).setpoint, (s.stepOf l).soak⟩
        let set : State := { s with
          handlers := s.handlers.set h { s.handlers[h] with
            target := some t, requiredKit := some (s.stepOf l).kit, thermal := thermalAfter s.handlers[h] t } }
        let u := if setpointChanges s.handlers[h] t then set.markBound h .setpointChange (unitBit h) else set
        if s.handlers[h].kit = some (s.stepOf l).kit then u else u.markBound h .kitChange (unitBit h)) := by
  unfold State.applySetup
  rw [hl]
  dsimp only
  rw [ite_not]
  rfl

theorem setpointChanges_iff (x : Handler) (t : Target) :
    setpointChanges x t = true ↔ ¬ x.setpoint = some t.setpoint ∨ ∃ o, x.target = some o ∧ o.setpoint ≠ t.setpoint := by
  unfold setpointChanges
  rw [Bool.or_eq_true, decide_eq_true_eq, Option.any_eq_true]
  simp only [decide_eq_true_eq, ne_eq]

/-! ### Staging -/

section
variable {s : State} {u : TesterId} {p : Program}

theorem State.beginStaging_atHand (hhand : s.testers[u].atHand p = true) : s.beginStaging u p = s := if_pos hhand

theorem State.beginStaging_empty (hhand : s.testers[u].atHand p = false) (hg : s.testers[u].staged = none) :
    s.beginStaging u p = s.startLoad u p 1 := by
  unfold State.beginStaging
  rw [if_neg (Bool.eq_false_iff.1 hhand), hg]

theorem State.beginStaging_staged (hhand : s.testers[u].atHand p = false) {g : Staged} (hg : s.testers[u].staged = some g) :
    s.beginStaging u p =
      if g.state = .loading then
        if g.program = p then s.updTester u (fun x => { x with staged := some { g with attempts := 1 } }) else s
      else s.startLoad u p 1 := by
  unfold State.beginStaging
  rw [if_neg (Bool.eq_false_iff.1 hhand), hg]

end

theorem Tester.atHand_iff (x : Tester) (p : Program) :
    x.atHand p = true ↔ (∃ a, x.active = some a ∧ a.program = p ∧ a.withdrawn = false) ∨
      (∃ g, x.staged = some g ∧ g.state = .loaded ∧ g.program = p) := by
  unfold Tester.atHand
  rw [Bool.or_eq_true, Option.any_eq_true, Option.any_eq_true]
  simp only [Bool.and_eq_true, decide_eq_true_eq, Bool.not_eq_true', and_comm]

/-- Settles O37: the target by where the handler stands, and the staging by the slot it finds. -/
theorem setupAndStaging : Obligations.SetupAndStaging := by
  refine ⟨?_, fun s u p => ⟨State.beginStaging_atHand, fun hhand => ⟨State.beginStaging_empty hhand, fun g hg => ?_⟩,
    Tester.atHand_iff _ _⟩⟩
  · intro s h k l hl st at' change set marks
    have hiff : setpointChanges s.handlers[h] ⟨st.setpoint, st.soak⟩ = true ↔ change := setpointChanges_iff _ _
    rw [State.applySetup_eq hl]
    refine ⟨fun hat => ?_, fun hat hchange => ?_, fun hat hno => ?_⟩
    · have hchanges := hiff.2 (.inl hat)
      dsimp only
      rw [if_pos hchanges, thermalAfter, if_neg hat]
    · dsimp only
      rw [if_pos (hiff.2 hchange), thermalAfter, if_pos hat]
    · dsimp only
      rw [if_neg (fun hc => hno (hiff.1 hc)), thermalAfter, if_pos hat]
  · have hstage := State.beginStaging_staged hhand hg
    refine ⟨fun hstate => ?_, fun hstate hp => ?_, fun hstate hp => ?_⟩
    · rw [hstage, if_neg hstate]
    · rw [hstage, if_pos hstate, if_neg hp]
    · rw [hstage, if_pos hstate, if_pos hp]
      rfl

/-! ### The handler that a lot leaves -/

theorem State.leaveHandler_free {s : State} {h : HandlerId} (hfree : s.handlers[h].cell.reserved = none) :
    s.leaveHandler h = { s with
      guards := s.guards.set h none
      handlers := s.handlers.set h { s.handlers[h] with cell := .idle, requiredKit := none, stalled := false } } := by
  unfold State.leaveHandler
  dsimp only
  rw [hfree]
  rfl

theorem State.leaveHandler_reserved {s : State} {h : HandlerId} {k : Slot} (hreserved : s.handlers[h].cell.reserved = some k) :
    s.leaveHandler h = (({ s with
      guards := s.guards.set h none
      handlers := s.handlers.set h { s.handlers[h] with cell := .preparing k, stalled := false } }).applySetup h k).readyCheck
        h := by
  unfold State.leaveHandler
  dsimp only
  rw [hreserved]
  rfl

end Sys2Proof.Machine
end

section
/-! SUPPORT. The requests of stations, lots, products and programs that write one entry of a table, or free it. -/

namespace Sys2Proof.Machine

/-! ### A request that is taken, by the reply of its block -/

/-- The answer of a request that is taken, where its block's reply is known. -/
theorem State.request_answers {s t : State} {k : Kind} {m : Msg} {reads : List Byte → Bool} {block : State → Reply}
    {r : Result} {b : Body} (h : s.takes m k reads = true) (e : block s.taken = ⟨r, b, t⟩) :
    s.request k m reads block = .next (t.answered m k r b) := by
  rw [State.request_of_takes block h, e]

theorem lowestIndex_eq_some {n : Nat} {p : Fin n → Bool} {i : Fin n} (hi : p i = true) (hlow : ∀ j, j < i → p j = false) :
    lowestIndex p = some i := by
  cases h : lowestIndex p with
  | none => exact absurd hi (by rw [lowestIndex_none.1 h i]; decide)
  | some j =>
    have hle := lowestIndex_least h hi
    rcases lt_or_eq_of_le hle with hlt | rfl
    · exact absurd (lowestIndex_some h) (by rw [hlow j hlt]; decide)
    · rfl

theorem index?_val {n : Nat} (i : Fin n) : index? i.val n = some i := by
  rw [index?, dif_pos i.isLt]

theorem within_iff {lo hi n : Nat} : within lo hi n = true ↔ lo ≤ n ∧ n ≤ hi := by
  rw [within, Bool.and_eq_true, decide_eq_true_eq, decide_eq_true_eq]

/-! ### Stations -/

theorem unitBit_eq (h : HandlerId) : (unitBit h : BitVec 16) = BitVec.twoPow 16 h.val := by
  revert h; decide

theorem and_unitBit (u : BitVec 16) (h : HandlerId) : u &&& unitBit h = if u.getLsbD h.val then unitBit h else 0 := by
  rw [unitBit_eq, BitVec.and_twoPow]
  rfl

theorem unitBit_ne_zero (h : HandlerId) : (unitBit h : BitVec 16) ≠ 0 := by
  revert h; decide

/-- What a station keeps of a mark when it is enrolled anew, bit by bit. -/
theorem keepMark_eq (rs : RoleSet) (new : Option HandlerId) (x : Mark) :
    keepMark rs new x =
      if !(fullMask rs).has x.kind then none
      else if x.kind.code ≤ 7 && !(x.kind = .stalled && rs.has .floor) then
        match new with
        | some h => if x.units.getLsbD h.val then some { x with units := unitBit h } else none
        | none => none
      else some x := by
  unfold keepMark
  cases new with
  | none => rfl
  | some h =>
    dsimp only
    rw [and_unitBit]
    cases hbit : x.units.getLsbD h.val with
    | false => rfl
    | true => simp only [if_true, if_neg (unitBit_ne_zero h)]; rfl

/-- Two tables that agree at every index are one table. -/
theorem vec_ext {α : Type} {n : Nat} {v w : Vector α n} (h : ∀ i : Fin n, v[i] = w[i]) : v = w :=
  Vector.ext fun i hi => h ⟨i, hi⟩

theorem State.bind_getElem (s : State) (i : StationId) (old new : Option HandlerId) (h : HandlerId) :
    (s.bind i old new).handlers[h] =
      if new = some h then { s.handlers[h] with bound := some i }
      else if old = some h then { s.handlers[h] with bound := none }
      else s.handlers[h] := by
  unfold State.bind
  cases old with
  | none =>
    cases new with
    | none => rfl
    | some b =>
      simp only [State.updHandler_handlers, set_getElem_fin, Option.some.injEq, reduceCtorEq, if_false]
      by_cases hb : b = h
      · subst hb; rfl
      · rw [if_neg hb, if_neg hb]
  | some a =>
    cases new with
    | none =>
      simp only [State.updHandler_handlers, set_getElem_fin, Option.some.injEq, reduceCtorEq, if_false]
      by_cases ha : a = h
      · subst ha; rfl
      · rw [if_neg ha, if_neg ha]
    | some b =>
      simp only [State.updHandler_handlers, set_getElem_fin, Option.some.injEq]
      by_cases hb : b = h
      · subst hb
        by_cases ha : a = b
        · subst ha; simp only [if_true]
        · simp only [ha, if_true, if_false]
      · by_cases ha : a = h
        · subst ha; simp only [if_neg hb, if_pos]
        · simp only [if_neg hb, if_neg ha]

theorem State.bind_eq (s : State) (i : StationId) (old new : Option HandlerId) :
    s.bind i old new = { s with handlers := vecOfFn (fun h =>
      if new = some h then { s.handlers[h] with bound := some i }
      else if old = some h then { s.handlers[h] with bound := none }
      else s.handlers[h]) } := by
  have hhandlers : (s.bind i old new).handlers = vecOfFn (fun h : HandlerId =>
      if new = some h then { s.handlers[h] with bound := some i }
      else if old = some h then { s.handlers[h] with bound := none }
      else s.handlers[h]) := vec_ext fun h => by rw [vecOfFn_getElem_fin, State.bind_getElem]
  obtain ⟨hs, e⟩ := s.bind_frame i old new
  rw [← hhandlers, e]

theorem stationEnroll_eq {s : State} {i : StationId} {roles : Byte} {new : Option HandlerId} (hi : i ≠ 0) (hroles : roles ≠ 0)
    (hlow : roles.toNat < 64) (hcell : RoleSet.has (roles.setWidth 6) .cell = new.isSome) (hfree : s.boundElsewhere i new = false)
    (hidle : s.rebindBusy i new = false) :
    stationEnroll (number i) roles (new.map number) s =
      accept ((s.bind i s.stations[i].bound new).updStation i (Station.enroll (roles.setWidth 6) new))
        (.enrolled s.stations[i].enrolled) := by
  have hnew : (new.map number).bind (fun n => indexOfNumber? n 16) = new := by
    cases new with
    | none => rfl
    | some h => exact indexOfNumber?_number h
  unfold stationEnroll
  simp only [indexOfNumber?_number, hnew, hfree, hidle, hcell]
  have hsome : ¬ roles = 0#8 := hroles
  rw [if_neg (by simp [hi, hsome, Nat.not_le.2 hlow]), if_neg (by cases new <;> simp), if_neg Bool.false_ne_true,
    if_neg Bool.false_ne_true]

theorem stationRemove_eq {s : State} {i : StationId} (hi : i ≠ 0) (henrolled : s.stations[i].enrolled = true) :
    stationRemove (number i) s =
      accept ((s.bind i s.stations[i].bound none).updStation i (fun _ => Station.initial)) .nothing := by
  unfold stationRemove
  simp only [indexOfNumber?_number]
  rw [if_neg hi, if_neg (by rw [henrolled]; decide)]

/-- Settles O18: the binding handler by handler, and the marks kept bit by bit. -/
theorem enrolment : Obligations.Enrolment := by
  refine ⟨?_, ?_⟩
  · intro m i roles new s htakes hi hroles hlow rs hcell hfree hidle old kept
    have hkept : keepMark rs new = kept := funext (keepMark_eq rs new)
    refine (State.request_answers htakes (stationEnroll_eq (s := s.taken) hi hroles hlow hcell hfree hidle)).trans ?_
    rw [State.bind_eq, State.updStation]
    unfold Station.enroll
    rw [hkept]
    rfl
  · intro m i s htakes hi henrolled
    refine (State.request_answers htakes (stationRemove_eq (s := s.taken) hi henrolled)).trans ?_
    rw [State.bind_eq]
    rfl

theorem attentionMask_stored {s : State} {i : StationId} {ks : BitVec 16} (h : ks.toNat < 8192) :
    attentionMask i (some ks) s = accept (s.updStation i (fun x =>
      { x with mask := maskFor s.stations[i].roles ks
               attention := x.attention.filter (fun m => (maskFor s.stations[i].roles ks).has m.kind) }))
      (.mask (maskFor s.stations[i].roles ks)) := if_neg (by omega)

theorem attentionMask_refused {s : State} {i : StationId} {ks : BitVec 16} (h : 8192 ≤ ks.toNat) :
    attentionMask i (some ks) s = refuse s .badFormat := if_pos h

/-- Settles O19: the mask that is stored is the one of R181 by definition. -/
theorem attentionReadAndMask : Obligations.AttentionReadAndMask := by
  intro m s
  refine ⟨fun htakes => State.request_answers htakes rfl, fun htakes => State.request_answers htakes rfl, fun ks htakes =>
    ⟨fun hlow => ?_, fun hhigh => State.request_answers htakes (attentionMask_refused (s := s.taken) hhigh)⟩⟩
  have hmask : ∀ rs : RoleSet, maskFor rs ks = (ks.setWidth 13 &&& fullMask rs) ||| 0b1000000000000 := fun rs => by
    rw [maskFor]
    congr 1
  refine (State.request_answers htakes (attentionMask_stored (s := s.taken) hlow)).trans ?_
  rw [hmask]
  rfl

/-! ### LOT_REGISTER -/

theorem State.freeSlot?_eq {s : State} {k : Slot} (hfree : ∀ l ∈ s.lots, l.slot ≠ k)
    (hlow : ∀ j : Slot, j < k → ∃ l ∈ s.lots, l.slot = j) : s.freeSlot? = some k := by
  refine lowestIndex_eq_some ?_ (fun j hj => ?_)
  · rw [State.lot?, List.find?_eq_none.2 (fun l hl => by simpa using hfree l hl)]
    rfl
  · obtain ⟨l, hl, e⟩ := hlow j hj
    rw [Option.isNone_eq_false_iff, State.lot?, List.find?_isSome]
    exact ⟨l, hl, decide_eq_true e⟩

theorem State.freeSlot?_none {s : State} (hfull : ∀ k : Slot, ∃ l ∈ s.lots, l.slot = k) : s.freeSlot? = none := by
  refine lowestIndex_none.2 fun k => ?_
  obtain ⟨l, hl, e⟩ := hfull k
  rw [Option.isNone_eq_false_iff, State.lot?, List.find?_isSome]
  exact ⟨l, hl, decide_eq_true e⟩

/-- A lot placed in a free slot and then changed is placed changed. -/
theorem insertLot_map {l : Lot} {f : Lot → Lot} {ls : List Lot} (hf : (f l).slot = l.slot) (hfree : ∀ x ∈ ls, x.slot ≠ l.slot) :
    (insertLot l ls).map (fun x => if x.slot = l.slot then f x else x) = insertLot (f l) ls := by
  induction ls with
  | nil => simp [insertLot]
  | cons a ls ih =>
    have hne := hfree a List.mem_cons_self
    have hrest : ls.map (fun x => if x.slot = l.slot then f x else x) = ls := by
      refine (List.map_congr_left fun x hx => if_neg (hfree x (List.mem_cons_of_mem _ hx))).trans (List.map_id _)
    unfold insertLot
    rw [hf]
    split
    · rw [List.map_cons, if_pos rfl, List.map_cons, if_neg hne, hrest]
    · rw [List.map_cons, if_neg hne, ih (fun x hx => hfree x (List.mem_cons_of_mem _ hx))]

theorem State.routeOf_active {s : State} {l : Lot} {r : Route} (h : s.products[l.product].active = some r) :
    s.routeOf l = r.steps := by
  rw [State.routeOf, h]

theorem State.stepOf_eq {s : State} {l : Lot} {st : RouteStep} (h : (s.routeOf l)[l.past.length]? = some st) :
    s.stepOf l = st := by
  rw [State.stepOf, Lot.stepNumber, Nat.add_sub_cancel, h]
  rfl

theorem nextStamp_eq (n : Nat) : nextStamp n = min 4294967295 (n + 1) := holdAt_eq _ _

theorem lotRegister_badFormat {lot product : Text} {q p : Nat} {s : State}
    (h : ¬ (lotIdOk lot = true ∧ productCodeOk product = true ∧ 1 ≤ q ∧ q ≤ 999999 ∧ p ≤ 3)) :
    lotRegister lot product q p s = refuse s .badFormat := by
  refine if_pos ?_
  rw [Bool.not_eq_true', Bool.eq_false_iff]
  simpa [within_iff, and_assoc] using h

theorem lotRegister_of_ok {lot product : Text} {q p : Nat} {s : State}
    (h : lotIdOk lot = true ∧ productCodeOk product = true ∧ 1 ≤ q ∧ q ≤ 999999 ∧ p ≤ 3) :
    lotRegister lot product q p s = match s.activeProduct? product with
      | none => refuse s .noSuchEntry
      | some i =>
        if (s.lotNamed? lot).isSome then refuse s .duplicate
        else
          match s.freeSlot? with
          | none => refuse s .tableFull
          | some k => accept ((s.addLot (newLot k lot i q p)).enterQueue k) (.registered k (nextStamp s.stampCounter)) := by
  obtain ⟨hlot, hproduct, hlow, hhigh, hpriority⟩ := h
  refine (if_neg ?_).trans rfl
  simp [hlot, hproduct, within_iff, hlow, hhigh, hpriority]

/-- Settles O20: the checks in their order; the lot enters its queue as it is placed in its slot. -/
theorem lotRegister_registers : Obligations.LotRegister := by
  refine ⟨?_, ?_⟩
  · intro m lot product quantity priority p r st k s htakes hlot hproduct hq hq' hpriority hactive hroute hst hnew hslot hlow stamp
    have hnamed : s.taken.lotNamed? lot = none := List.find?_eq_none.2 (fun l hl => by simpa using hnew l hl)
    have hfree : s.taken.freeSlot? = some k := State.freeSlot?_eq hslot hlow
    have hstep : s.stepOf (newLot k lot p quantity priority) = st :=
      State.stepOf_eq (by rw [State.routeOf_active (l := newLot k lot p quantity priority) hroute]; exact hst)
    have hblock : lotRegister lot product quantity priority s.taken =
        accept ((s.taken.addLot (newLot k lot p quantity priority)).enterQueue k) (.registered k stamp) := by
      rw [lotRegister_of_ok ⟨hlot, hproduct, hq, hq', hpriority⟩, show s.taken.activeProduct? product = some p from hactive]
      dsimp only
      rw [hnamed, hfree, nextStamp_eq]
      rfl
    refine (State.request_answers htakes hblock).trans ?_
    have hlots : ((s.taken.addLot (newLot k lot p quantity priority)).enterQueue k).lots =
        insertLot { newLot k lot p quantity priority with
          state := .queued { stamp := stamp, age := 0, left := if st.queueLimit = 0 then none else some (st.queueLimit * 60) } }
          s.lots := by
      refine Eq.trans ?_ ((insertLot_map (l := newLot k lot p quantity priority) (f := fun l => { l with
        state := .queued { stamp := nextStamp s.stampCounter, age := 0, left := freshCountdown (s.stepOf l) } }) rfl hslot).trans ?_)
      · rfl
      · rw [hstep, nextStamp_eq]
        rfl
    have hstate : (s.taken.addLot (newLot k lot p quantity priority)).enterQueue k =
        { s.taken with
          lots := ((s.taken.addLot (newLot k lot p quantity priority)).enterQueue k).lots
          stampCounter := nextStamp s.stampCounter } := rfl
    rw [hstate, hlots, nextStamp_eq]
    rfl
  · intro m lot product quantity priority s htakes wellFormed answer
    refine ⟨fun hno => State.request_answers htakes (lotRegister_badFormat hno), fun hok hnone => ?_, fun hok p l hp hl => ?_,
      fun hok p hp hl hfull => ?_⟩
    · refine State.request_answers htakes ?_
      rw [lotRegister_of_ok hok, show s.taken.activeProduct? product = none from hnone]
      rfl
    · refine State.request_answers htakes ?_
      rw [lotRegister_of_ok hok, show s.taken.activeProduct? product = some p from hp]
      dsimp only
      rw [show s.taken.lotNamed? lot = some l from hl]
      rfl
    · refine State.request_answers htakes ?_
      rw [lotRegister_of_ok hok, show s.taken.activeProduct? product = some p from hp]
      dsimp only
      rw [show s.taken.lotNamed? lot = none from hl, State.freeSlot?_none (s := s.taken) hfull]
      rfl

/-! ### Entries freed -/

theorem Lot.purgeable_iff (l : Lot) :
    l.purgeable = true ↔ l.state = .scrapped ∨ ((∃ w, l.state = .queued w) ∧ l.past = [] ∧ l.cur.runs = []) := by
  have hqueued : l.isQueued = true ↔ ∃ w, l.state = .queued w := by
    unfold Lot.isQueued
    cases l.state <;> simp
  rw [Lot.purgeable, Bool.or_eq_true, Bool.and_eq_true, Bool.and_eq_true, hqueued, decide_eq_true_eq, decide_eq_true_eq,
    List.isEmpty_iff, Lot.stepNumber, and_assoc, Nat.add_eq_right, List.length_eq_zero_iff]

theorem State.productInUse_false {s : State} {i : ProductIx} (hlots : s.lotCount i = 0) (hdevs : s.deviationCount i = 0) :
    s.productInUse i = false := by
  rw [State.productInUse, hlots, hdevs]
  rfl

section
variable {s : State}

theorem lotPurge_eq {lot : Text} {l : Lot} (hid : lotIdOk lot = true) (hl : s.lotNamed? lot = some l) (hp : l.purgeable = true) :
    lotPurge lot s = accept (s.dropLot l.slot) (.slotFreed l.slot) := by
  unfold lotPurge
  rw [if_neg (by rw [hid]; decide), hl]
  exact if_pos hp

theorem productRemove_eq {i : ProductIx} (hfull : s.products[i].state ≠ .free) (hlots : s.lotCount i = 0)
    (hdevs : s.deviationCount i = 0) :
    productRemove (.index i.val) s = accept (s.setProduct i { active := none, draft := none }) (.productFreed i) := by
  have hnamed : s.namedForRemoval (.index i.val) = .ok i := by
    unfold State.namedForRemoval
    dsimp only
    rw [index?_val]
    exact if_neg hfull
  unfold productRemove
  rw [hnamed]
  exact if_neg (by rw [State.productInUse_false hlots hdevs]; decide)

theorem programRemove_eq {p e : Nat} {i : LibIx} (hok : programOk p e = true) (hi : s.libraryIndex? ⟨p, e⟩ = some i)
    (hreleased : s.isReleased ⟨p, e⟩ = false) (hactive : s.activeHolders ⟨p, e⟩ = 0) (hstaged : s.stagedHolders ⟨p, e⟩ = 0) :
    programRemove p e s = accept (s.setLibrary i none) (.libraryEntry i) := by
  unfold programRemove
  rw [if_neg (by rw [hok]; decide), hi]
  exact if_neg (by rw [hreleased, hactive, hstaged]; decide)

theorem deviationClear_eq {d : DevId} {e : Deviation} (he : s.deviations[d] = some e) (hp : e.pending = 0) :
    deviationClear (number d) s = accept (s.updDeviation d (fun _ => none)) (.deviationCleared e.remaining e.hits) := by
  unfold deviationClear
  rw [indexOfNumber?_number]
  dsimp only
  rw [he]
  exact if_neg (by omega)

end

/-- Settles O21: each block under the conditions that its checks leave. -/
theorem freeingRequests : Obligations.FreeingRequests := by
  intro m s
  refine ⟨fun lot l htakes hid hl hstate => ?_, fun i htakes hfull hlots hdevs => ?_,
    fun p e i htakes hok hi hreleased hactive hstaged => ?_, fun d e htakes he hp => ?_⟩
  · exact State.request_answers htakes (lotPurge_eq (s := s.taken) hid hl (l.purgeable_iff.2 hstate))
  · exact State.request_answers htakes (productRemove_eq (s := s.taken) hfull hlots hdevs)
  · exact State.request_answers htakes (programRemove_eq (s := s.taken) hok hi hreleased hactive hstaged)
  · exact State.request_answers htakes (deviationClear_eq (s := s.taken) he hp)

/-! ### Entries filled -/

section
variable {s : State}

theorem programDefine_eq {sender : StationId} {p e est : Nat} {sig : Signature} {i : LibIx} (hok : programOk p e = true)
    (hlow : 1 ≤ est) (hhigh : est ≤ 1800) (hnew : ∀ j : LibIx, ∀ x ∈ s.library[j], x.program ≠ ⟨p, e⟩)
    (hi : s.library[i] = none) (hbelow : ∀ j : LibIx, j < i → s.library[j] ≠ none) :
    programDefine sender p e sig est s =
      accept (s.setLibrary i (some { program := ⟨p, e⟩, signature := sig, estimate := est, defineTime := s.floorTime
                                     definedBy := sender, withdrawal := none })) (.libraryEntry i) := by
  have hnone : s.libraryIndex? ⟨p, e⟩ = none := lowestIndex_none.2 fun j => by
    rw [Option.any_eq_false]
    exact fun x hx => decide_eq_false (hnew j x hx)
  have hfree : lowestIndex (fun i : LibIx => (s.library[i]).isNone) = some i :=
    lowestIndex_eq_some (by rw [hi]; rfl) (fun j hj => by
      rw [Option.isNone_eq_false_iff, Option.isSome_iff_ne_none]; exact hbelow j hj)
  unfold programDefine
  rw [if_neg (by simp [hok, within_iff, hlow, hhigh]), hnone, hfree]
  rfl

theorem deviationSet_eq {sender : StationId} {i : ProductIx} {n sub rem : Nat} {st : RouteStep} {d : DevId}
    (hn : 1 ≤ n) (hn' : n ≤ 4) (hst : s.activeStep? i n = some st)
    (hrev : within 1 255 st.program.revision = true) (hsub : within 1 255 sub = true) (hrem : within 1 255 rem = true)
    (hne : st.program.revision ≠ sub) (hd : s.deviations[d] = none) (hbelow : ∀ e : DevId, e < d → s.deviations[e] ≠ none) :
    deviationSet sender i.val n st.program.revision sub rem s =
      accept (s.updDeviation d (fun _ => some
        { product := i, step := n, fromRevision := st.program.revision, substitute := sub, remaining := rem, pending := 0
          hits := 0, owner := sender, setTime := s.floorTime })) (.deviationEntry d) := by
  have hfree : lowestIndex (fun d : DevId => (s.deviations[d]).isNone) = some d :=
    lowestIndex_eq_some (by rw [hd]; rfl) (fun j hj => by
      rw [Option.isNone_eq_false_iff, Option.isSome_iff_ne_none]; exact hbelow j hj)
  have hstep : within 1 4 n = true := within_iff.2 ⟨hn, hn'⟩
  unfold deviationSet
  rw [index?_val]
  dsimp only
  rw [if_neg (by simp [hstep, hrev, hsub, hrem, hne]), hst]
  dsimp only
  rw [if_neg (by simp), hfree]

end

/-- Settles O22: the lowest free entry by the entries below it. -/
theorem fillingRequests : Obligations.FillingRequests := by
  intro m s
  refine ⟨fun p e sig est i htakes hok hlow hhigh hnew hi hbelow => ?_, ?_⟩
  · exact State.request_answers htakes (programDefine_eq (s := s.taken) hok hlow hhigh hnew hi hbelow)
  · rintro i n rev sub rem r st d htakes hn hn' hr hst rfl hrev hsub hrem hne hd hbelow
    have hstep : s.taken.activeStep? i n = some st := by
      rw [State.activeStep?, show s.taken.products[i].active = some r from hr]
      exact hst
    exact State.request_answers htakes (deviationSet_eq (s := s.taken) hn hn' hstep hrev hsub hrem hne hd hbelow)

/-! ### PRODUCT_DEFINE -/

section
variable {s : State} {sender : StationId} {i : ProductIx} {code : Text} {count k : Nat} {g : StepGiven}

theorem productDefine_of_ok (hcode : productCodeOk code = true) (hcount : 1 ≤ count) (hcount' : count ≤ 4) (hk : 1 ≤ k)
    (hk' : k ≤ count) (hg : stepGivenOk g = true) :
    productDefine sender i.val code count k g s =
      if k = 1 then openDefinition sender i code count (storeStep g) s
      else continueDefinition sender i code count k (storeStep g) s := by
  unfold productDefine
  rw [index?_val]
  exact if_neg (by simp [hcode, within_iff, hcount, hcount', hk, hk', hg])

theorem State.codeElsewhere_false (h : ∀ j : ProductIx, j ≠ i → s.products[j].holdsCode code = false) :
    s.codeElsewhere i code = false := by
  have hnone : lowestIndex (fun j : ProductIx => j ≠ i && s.products[j].holdsCode code) = none :=
    lowestIndex_none.2 fun j => by
      by_cases hj : j = i
      · simp [hj]
      · rw [h j hj, Bool.and_false]
  rw [State.codeElsewhere, hnone]
  rfl

theorem openDefinition_eq (hlots : s.lotCount i = 0) (hdevs : s.deviationCount i = 0)
    (hcode : ∀ j : ProductIx, j ≠ i → s.products[j].holdsCode code = false) (st : RouteStep) :
    openDefinition sender i code count st s =
      (let p : ProductEntry :=
        if count = 1 then { active := some { code := code, steps := [st] }, draft := none }
        else { active := s.products[i].active, draft := some { code := code, count := count, steps := [st], owner := sender } }
      accept (s.setProduct i p) (openedAnswer p st)) := by
  unfold openDefinition
  rw [State.productInUse_false hlots hdevs, State.codeElsewhere_false hcode]
  rfl

theorem continueDefinition_of_draft {d : Draft} (hd : s.products[i].draft = some d) (howner : d.owner = sender)
    (hcode : d.code = code) (hcount : d.count = count) (hk : k = d.steps.length + 1) (st : RouteStep) :
    continueDefinition sender i code count k st s =
      if k < count then
        accept (s.setProduct i { active := s.products[i].active, draft := some { d with steps := d.steps ++ [st] } })
          (continuedAnswer k st)
      else if s.productInUse i then refuse s .inUse
      else
        let p : ProductEntry := { active := some { code := code, steps := d.steps ++ [st] }, draft := none }
        accept (s.setProduct i p) (completedAnswer p st) := by
  have hcontinued : d.continuedBy sender code count k = true := by
    simp [Draft.continuedBy, howner, hcode, hcount, hk]
  unfold continueDefinition
  rw [hd]
  exact if_neg (by rw [hcontinued]; decide)

end

/-- Settles O24: opening and continuing apart, and the completing frame of each. -/
theorem productDefine_defines : Obligations.ProductDefine := by
  intro m i code count k g s htakes hcode hcount hcount' hk hk' hg st becomes opened
  have hblock := productDefine_of_ok (s := s.taken) (sender := m.sender) (i := i) hcode hcount hcount' hk hk' hg
  refine ⟨fun hone hlots hdevs hother => ?_, fun hmore d hd howner hdcode hdcount hnext => ?_⟩
  · rw [if_pos hone, openDefinition_eq (s := s.taken) hlots hdevs hother] at hblock
    refine ⟨fun hsingle => ?_, fun hseveral => ?_⟩
    · rw [if_pos hsingle] at hblock
      exact State.request_answers htakes hblock
    · rw [if_neg (by omega)] at hblock
      refine (State.request_answers htakes hblock).trans ?_
      have hstate : ProductEntry.state ⟨s.products[i].active, some ⟨code, count, [st], m.sender⟩⟩ =
          if s.products[i].active = none then .draft else .redefining := by
        unfold ProductEntry.state
        cases s.products[i].active <;> rfl
      rw [openedAnswer]
      exact congrArg (fun e => Host.Outcome.next (State.answered _ m .productDefine .ok (opened e))) hstate
  · rw [if_neg (by omega), continueDefinition_of_draft (s := s.taken) hd howner hdcode hdcount hnext] at hblock
    refine ⟨fun hbefore => ?_, fun hlast hlots hdevs => ?_⟩
    · rw [if_pos hbefore] at hblock
      exact State.request_answers htakes hblock
    · rw [if_neg (by omega), if_neg (by rw [State.productInUse_false (s := s.taken) hlots hdevs]; decide)] at hblock
      exact State.request_answers htakes hblock

end Sys2Proof.Machine
end

section
/-! SUPPORT. Lots and the Hold Unit: LOT_HOLD, the three dispositions, DRAINED and LOT_END, each as the record it puts. -/

namespace Sys2Proof.Machine

/-! ### A lot put in the queue of its step, or on to its next one -/

section
variable {s : State} {l : Lot}

/-- Entering a queue, in terms of the record put (R42, R43). -/
theorem State.SlotsInOrder.enterQueue_eq (hs : s.SlotsInOrder) (hl : s.lot? l.slot = some l) :
    s.enterQueue l.slot = s.putQueued l := by
  unfold State.enterQueue
  rw [hs.updLot_eq hl (fun l => { l with state := .queued ⟨nextStamp s.stampCounter, 0, freshCountdown (s.stepOf l)⟩ }) rfl,
    nextStamp_eq]
  rfl

theorem State.putLot_putQueued (s : State) (a b : Lot) (h : a.slot = b.slot) : (s.putLot a).putQueued b = s.putQueued b := by
  unfold State.putQueued
  rw [State.putLot_putLot s a { b with state := .queued ((s.putLot a).freshWait ((s.putLot a).stepOf b)) } h]
  rfl

theorem State.SlotsInOrder.lot?_putQueued (hs : s.SlotsInOrder) (hl : s.lot? l.slot = some l) {x : Lot} (hx : x.slot = l.slot) :
    (s.putQueued x).lot? l.slot = some { x with state := .queued (s.freshWait (s.stepOf x)) } := by
  rw [← hx]
  exact hs.lot?_putLot (l := { x with state := .queued (s.freshWait (s.stepOf x)) }) (x := l) (by rw [← hl, ← hx])

/-- The record put, read back from the slot. -/
theorem State.SlotsInOrder.lot?_putLot_of (hs : s.SlotsInOrder) (hl : s.lot? l.slot = some l) {x : Lot} (hx : x.slot = l.slot) :
    (s.putLot x).lot? l.slot = some x := by
  rw [← hx]
  exact hs.lot?_putLot (x := l) (by rw [hx]; exact hl)

theorem State.SlotsInOrder.enterQueue_putLot (hs : s.SlotsInOrder) (hl : s.lot? l.slot = some l) {x : Lot} (hx : x.slot = l.slot) :
    (s.putLot x).enterQueue l.slot = s.putQueued x := by
  rw [← hx, (hs.putLot x).enterQueue_eq (by rw [hx]; exact hs.lot?_putLot_of hl hx), State.putLot_putQueued _ _ _ rfl]

/-- Where a lot goes from a closed step, in terms of the record put (R19, R146). -/
theorem State.SlotsInOrder.proceed_eq (hs : s.SlotsInOrder) (hl : s.lot? l.slot = some l) :
    s.proceed l.slot =
      if s.stepsRemain l then s.putQueued l.openNext
      else (s.putLot { l with state := .complete none }).markComplete l := by
  unfold State.proceed
  rw [hl]
  dsimp only
  split
  · rw [hs.updLot_eq hl Lot.openNext rfl, hs.enterQueue_putLot hl (x := l.openNext) rfl]
  · rw [hs.setLotState_eq hl]

/-- The same for a record just put. -/
theorem State.SlotsInOrder.proceed_putLot (hs : s.SlotsInOrder) (hl : s.lot? l.slot = some l) {x : Lot} (hx : x.slot = l.slot) :
    (s.putLot x).proceed l.slot =
      if s.stepsRemain x then s.putQueued x.openNext
      else (s.putLot { x with state := .complete none }).markComplete x := by
  rw [← hx, (hs.putLot x).proceed_eq (by rw [hx]; exact hs.lot?_putLot_of hl hx),
    State.putLot_putQueued s x x.openNext rfl, State.putLot_putLot _ x { x with state := .complete none } rfl]
  rfl

theorem State.markComplete_eq (s : State) (l : Lot) :
    s.markComplete l =
      s.markRoles (if l.deviationUsed || l.waiver then [.quality, .dock, .engineering] else [.quality, .dock]) .lotComplete 0 := by
  unfold State.markComplete
  split <;> rfl

theorem State.disposedAnswer_of {k : Slot} (hl : s.lot? k = some l) :
    s.disposedAnswer k =
      accept s (.disposed l.state.name (l.holds.map (·.reason)) l.waiver (l.state.wait?.map (·.stamp))) := by
  unfold State.disposedAnswer
  rw [hl]

theorem State.stateNameOf_of {k : Slot} (hl : s.lot? k = some l) : s.stateNameOf k = l.state.name := by
  rw [State.stateNameOf, hl]
  rfl

end

/-! ### LOT_HOLD -/

theorem Cell.holds_iff (c : Cell) (k : Slot) : c.holds k = true ↔ c.current = some k ∨ c.reserved = some k := by
  rw [Cell.holds, Bool.or_eq_true, decide_eq_true_eq, decide_eq_true_eq]

theorem State.mayHold_iff (s : State) (i : StationId) (k : Slot) :
    s.mayHold i k = true ↔
      (s.rolesOf i).hasAny [.floor, .quality, .engineering] = true ∨
        ((s.rolesOf i).has .cell = true ∧ ∃ h : HandlerId, s.stations[i].bound = some h ∧
          (s.handlers[h].cell.current = some k ∨ s.handlers[h].cell.reserved = some k)) := by
  rw [State.mayHold, Bool.or_eq_true, Bool.and_eq_true, Option.any_eq_true]
  simp only [Cell.holds_iff]

section
variable {s : State} {lot : Text} {l : Lot} {i : StationId}

theorem lotHold_of_named (hid : lotIdOk lot = true) (hl : s.lotNamed? lot = some l) :
    lotHold i lot s =
      if !s.mayHold i l.slot then refuse s .notPermitted
      else if l.state = .scrapped then refuse s .wrongState
      else if l.hasHold .manual then refuse s .duplicate
      else s.holdManually i l := by
  unfold lotHold
  rw [if_neg (by rw [hid]; decide), hl]

end

/-- Settles O28: the checks in their order. -/
theorem lotHold_places : Obligations.LotHold := by
  intro m lot l s htakes hid hl allowed
  have hnamed := lotHold_of_named (s := s.taken) (i := m.sender) hid hl
  have hmay : s.taken.mayHold m.sender l.slot = true ↔ allowed := s.taken.mayHold_iff m.sender l.slot
  refine ⟨fun hallowed hlive hno => ?_, fun hnot => ?_, fun hallowed hscrapped => ?_, fun hallowed hlive hhas => ?_⟩
  · intro t
    refine State.request_answers htakes ?_
    rw [hnamed, hmay.2 hallowed, if_neg (by decide), if_neg hlive, hno, if_neg Bool.false_ne_true]
    rfl
  · refine State.request_answers htakes ?_
    rw [hnamed, if_pos (by rw [Bool.eq_false_iff.2 (fun h => hnot (hmay.1 h))]; rfl)]
    rfl
  · refine State.request_answers htakes ?_
    rw [hnamed, hmay.2 hallowed, if_neg (by decide), if_pos hscrapped]
    rfl
  · refine State.request_answers htakes ?_
    rw [hnamed, hmay.2 hallowed, if_neg (by decide), if_neg hlive, if_pos hhas]
    rfl

/-! ### The dispositions -/

theorem HoldReason.ofCode?_code (r : HoldReason) : HoldReason.ofCode? r.code = some r := by cases r <;> rfl

theorem Lot.holdOf?_reason {l : Lot} {r : HoldReason} {e : HoldEntry} (h : l.holdOf? r = some e) : e.reason = r := by
  simpa using List.find?_some h

section
variable {s : State} {lot : Text} {l : Lot} {r : HoldReason} {e : HoldEntry}

theorem State.disposable_eq (hid : lotIdOk lot = true) (hl : s.lotNamed? lot = some l) (hheld : l.state = .held)
    (he : l.holdOf? r = some e) : s.disposable lot r.code = .ok (l, e) := by
  unfold State.disposable
  rw [hid, HoldReason.ofCode?_code]
  dsimp only
  rw [hl]
  dsimp only
  rw [if_neg (fun h => h hheld), he]

/-- What follows a CONTINUE, by the record it leaves (R145 to R147). -/
theorem State.SlotsInOrder.continueLot_eq (hs : s.SlotsInOrder) (hl : s.lot? l.slot = some l) (r : HoldReason) :
    s.continueLot l.slot r =
      if (l.clearHold r).holds ≠ [] then s.putLot (l.clearHold r)
      else if l.cur.closeTime ≠ none then
        if s.stepsRemain l then s.putQueued (l.clearHold r).openNext
        else (s.putLot { l.clearHold r with state := .complete none }).markComplete (l.clearHold r)
      else if l.cur.runs.length < 4 then s.putQueued (l.clearHold r)
      else s.holdMarked.putLot { l.clearHold r with holds := [⟨.runLimit, s.floorTime, none, 0⟩] } := by
  have hx : (l.clearHold r).slot = l.slot := rfl
  have hput := hs.lot?_putLot_of hl hx
  have hin := hs.putLot (l.clearHold r)
  have hclosed : (l.clearHold r).cur.closed = l.cur.closeTime.isSome := by
    unfold Lot.clearHold StepRecord.closed; dsimp only; split <;> rfl
  have hruns : (l.clearHold r).cur.runs = l.cur.runs := by
    unfold Lot.clearHold; dsimp only; split <;> rfl
  unfold State.continueLot State.afterContinue
  rw [hs.updLot_eq hl (Lot.clearHold r) hx, hput]
  dsimp only
  rw [hclosed, hruns]
  by_cases hholds : (l.clearHold r).holds = []
  · have hempty : (l.clearHold r).holds.isEmpty = true := List.isEmpty_iff.2 hholds
    rw [hempty, if_neg (show ¬ (!true) = true by decide), if_neg (not_not.2 hholds)]
    cases hclose : l.cur.closeTime with
    | some t =>
      rw [if_pos (show (some t).isSome = true from rfl), if_pos (Option.some_ne_none t), hs.proceed_putLot hl hx]
      rfl
    | none =>
      rw [if_neg (show ¬ (none : Option Time).isSome = true by decide), if_neg (not_not.2 rfl)]
      by_cases hroom : l.cur.runs.length < 4
      · rw [if_pos (show l.cur.runs.length < Config.runMax from hroom), if_pos hroom, hs.enterQueue_putLot hl hx]
      · rw [if_neg (show ¬ l.cur.runs.length < Config.runMax from hroom), if_neg hroom, ← hx,
          hin.addHold_eq hput (Lot.hasHold_of_empty hholds _)]
        refine (State.putLot_putLot s.holdMarked (l.clearHold r) ((l.clearHold r).withHold ⟨.runLimit, s.floorTime, none, 0⟩)
          rfl).trans ?_
        rw [Lot.withHold, hholds]
        rfl
  · have hfull : (l.clearHold r).holds.isEmpty = false := Bool.eq_false_iff.2 fun h => hholds (List.isEmpty_iff.1 h)
    rw [hfull, if_pos (show (!false) = true from rfl), if_pos hholds]

theorem disposeContinue_of_disposable {i : StationId} (hd : s.disposable lot r.code = .ok (l, e)) (he : e.reason = r) :
    disposeContinue i lot r.code s =
      if !s.mayContinue i e then refuse s .notPermitted
      else if r = .runLimit then refuse s .wrongState
      else (s.continueLot l.slot r).disposedAnswer l.slot := by
  unfold disposeContinue
  rw [hd]
  dsimp only
  rw [he]

theorem State.mayContinue_iff {i : StationId} (he : e.reason = r) :
    s.mayContinue i e = true ↔ (s.rolesOf i).has .quality = true ∨ (r = .manual ∧ e.setter = some i) := by
  rw [State.mayContinue, Bool.or_eq_true, Bool.and_eq_true, decide_eq_true_eq, decide_eq_true_eq, he]

/-- A lot with a reason cleared, for a reason that CONTINUE clears. -/
theorem Lot.clearHold_eq (hr : r ≠ .runLimit) :
    l.clearHold r =
      { l with
        holds := l.holds.filter (fun y => y.reason ≠ r)
        waiver := l.waiver || !(r = .manual || r = .queueTime || r = .interrupted)
        cur := { l.cur with armed := l.cur.armed && r ≠ .yieldLow } } := by
  have hwaives : r.waives = !(r = .manual || r = .queueTime || r = .interrupted) := by
    cases r with
    | runLimit => exact absurd rfl hr
    | _ => rfl
  have hcur : (if r = .yieldLow then { l.cur with armed := false } else l.cur) =
      { l.cur with armed := l.cur.armed && r ≠ .yieldLow } := by
    split
    · next h => rw [h]; simp
    · next h => simp [h]
  rw [Lot.clearHold, hwaives, hcur]

end

/-- Settles O29: what follows the clearing, by the lot's holds, its step's close and its runs. -/
theorem continue_disposes : Obligations.Continue := by
  intro m lot l e r s htakes hs hid hl hheld he allowed x does
  have hreason := Lot.holdOf?_reason he
  have hlot : s.lot? l.slot = some l := hs.lot?_of_named hl
  have hblock := disposeContinue_of_disposable (i := m.sender)
    (State.disposable_eq (s := s.taken) hid hl hheld he) hreason
  have hmay : s.taken.mayContinue m.sender e = true ↔ allowed := State.mayContinue_iff hreason
  have hlotTaken : s.taken.lot? l.slot = some l := hlot
  have hinTaken : s.taken.SlotsInOrder := hs
  have hcontinue := hinTaken.continueLot_eq hlotTaken r
  have hclear : r ≠ .runLimit → l.clearHold r = x := Lot.clearHold_eq
  have hanswers : ∀ (u : State) (y : Lot), allowed → r ≠ .runLimit → s.taken.continueLot l.slot r = u → u.lot? l.slot = some y →
      exec (.lotDisposeContinue m lot r.code) s = .next (u.answered m .lotDispose .ok
        (.disposed y.state.name (y.holds.map (·.reason)) y.waiver (y.state.wait?.map (·.stamp)))) := by
    intro u y hallowed hr hu hy
    refine State.request_answers htakes ?_
    rw [hblock, hmay.2 hallowed, if_neg (by decide), if_neg hr, hu, State.disposedAnswer_of hy]
    rfl
  refine ⟨fun hnot => ?_, fun hallowed hr => ?_, fun hallowed hr hholds => ?_, fun hallowed hr hholds hopen hruns => ?_,
    fun hallowed hr hholds hopen hruns => ?_, fun hallowed hr hholds hclosed hsteps => ?_,
    fun hallowed hr hholds hclosed hsteps => ?_⟩
  · refine State.request_answers htakes ?_
    rw [hblock, if_pos (by rw [Bool.eq_false_iff.2 (fun h => hnot (hmay.1 h))]; rfl)]
    rfl
  · refine State.request_answers htakes ?_
    rw [hblock, hmay.2 hallowed, if_neg (by decide), if_pos hr]
    rfl
  · rw [hclear hr, if_pos hholds] at hcontinue
    refine (hanswers _ x hallowed hr hcontinue (hinTaken.lot?_putLot_of hlotTaken (by rfl))).trans ?_
    rw [show x.state = .held from hheld]
    rfl
  · rw [hclear hr, if_neg (not_not.2 hholds), if_neg (not_not.2 hopen), if_pos hruns] at hcontinue
    refine (hanswers _ _ hallowed hr hcontinue (hinTaken.lot?_putQueued hlotTaken (by rfl))).trans ?_
    dsimp only
    rw [hholds]
    rfl
  · rw [hclear hr, if_neg (not_not.2 hholds), if_neg (not_not.2 hopen), if_neg (Nat.not_lt.2 hruns)] at hcontinue
    refine (hanswers _ _ hallowed hr hcontinue (hinTaken.lot?_holdMarked_putLot hlotTaken (by rfl))).trans ?_
    dsimp only
    rw [show x.state = .held from hheld]
    rfl
  · have hremain : s.taken.stepsRemain l = true := decide_eq_true hsteps
    rw [hclear hr, if_neg (not_not.2 hholds), if_pos hclosed, if_pos hremain] at hcontinue
    refine (hanswers _ _ hallowed hr hcontinue (hinTaken.lot?_putQueued hlotTaken (by rfl))).trans ?_
    dsimp only [Lot.openNext]
    rw [hholds]
    rfl
  · have hlast : s.taken.stepsRemain l = false := decide_eq_false (Nat.not_lt.2 hsteps)
    rw [hclear hr, if_neg (not_not.2 hholds), if_pos hclosed, if_neg (by rw [hlast]; decide), State.markComplete_eq] at hcontinue
    refine (hanswers _ _ hallowed hr hcontinue (hinTaken.lot?_putLot_of hlotTaken (by rfl))).trans ?_
    dsimp only
    rw [hholds]
    rfl

/-! ### RESCREEN and SCRAP -/

section
variable {s : State} {lot : Text} {l : Lot} {r : HoldReason} {e : HoldEntry} {i : StationId}

theorem Lot.rescreenable_iff (l : Lot) : l.rescreenable = true ↔ l.cur.closeTime = none ∧ l.cur.rescreens < 3 := by
  rw [Lot.rescreenable, StepRecord.closed, Bool.and_eq_true, Bool.not_eq_true', Option.isSome_eq_false_iff, Option.isNone_iff_eq_none,
    decide_eq_true_eq]
  rfl

theorem disposeRescreen_of_disposable (hd : s.disposable lot r.code = .ok (l, e)) :
    disposeRescreen i lot r.code s =
      if !(s.rolesOf i).hasAny [.quality, .engineering] then refuse s .notPermitted
      else if !l.rescreenable then refuse s .wrongState
      else ((s.updLot l.slot Lot.rescreen).enterQueue l.slot).disposedAnswer l.slot := by
  unfold disposeRescreen
  rw [hd]

theorem disposeScrap_of_disposable (hd : s.disposable lot r.code = .ok (l, e)) :
    disposeScrap i lot r.code s =
      if !(s.rolesOf i).has .quality then refuse s .notPermitted
      else (s.updLot l.slot Lot.scrap).disposedAnswer l.slot := by
  unfold disposeScrap
  rw [hd]

/-- A lot rescreened stands in its queue with the record of RESCREEN (R148). -/
theorem State.SlotsInOrder.rescreen_eq (hs : s.SlotsInOrder) (hl : s.lot? l.slot = some l) :
    ((s.updLot l.slot Lot.rescreen).enterQueue l.slot) = s.putQueued l.rescreen := by
  rw [hs.updLot_eq hl Lot.rescreen rfl, hs.enterQueue_putLot hl (x := l.rescreen) rfl]

end

/-- Settles O30: the record that each disposition puts, and its refusals by role and state. -/
theorem rescreenAndScrap : Obligations.RescreenAndScrap := by
  intro m lot l e r s htakes hs hid hl hheld he opens
  have hlot : s.taken.lot? l.slot = some l := hs.lot?_of_named hl
  have hin : s.taken.SlotsInOrder := hs
  have hd := State.disposable_eq (s := s.taken) hid hl hheld he
  have hrescreen := disposeRescreen_of_disposable (i := m.sender) hd
  have hscrap := disposeScrap_of_disposable (i := m.sender) hd
  refine ⟨fun hrole hopens => ?_, fun hrole hnot => ?_, fun hrole => ?_, fun hrole => ?_, fun hrole => ?_⟩
  · refine State.request_answers htakes ?_
    rw [hrescreen, show (s.taken.rolesOf m.sender).hasAny [.quality, .engineering] = true from hrole,
      l.rescreenable_iff.2 hopens, if_neg (by decide), if_neg (by decide), hin.rescreen_eq hlot,
      State.disposedAnswer_of (hin.lot?_putQueued hlot (by rfl))]
    rfl
  · refine State.request_answers htakes ?_
    rw [hrescreen, show (s.taken.rolesOf m.sender).hasAny [.quality, .engineering] = true from hrole, if_neg (by decide),
      if_pos (by rw [Bool.eq_false_iff.2 (fun h => hnot (l.rescreenable_iff.1 h))]; rfl)]
    rfl
  · refine State.request_answers htakes ?_
    rw [hrescreen, show (s.taken.rolesOf m.sender).hasAny [.quality, .engineering] = false from hrole]
    rfl
  · refine State.request_answers htakes ?_
    rw [hscrap, show (s.taken.rolesOf m.sender).has .quality = true from hrole, if_neg (by decide),
      hin.updLot_eq hlot Lot.scrap rfl, State.disposedAnswer_of (hin.lot?_putLot_of hlot (by rfl))]
    rfl
  · refine State.request_answers htakes ?_
    rw [hscrap, show (s.taken.rolesOf m.sender).has .quality = false from hrole]
    rfl

/-! ### DRAINED and LOT_END -/

section
variable {s : State} {lot : Text} {l : Lot} {h : HandlerId} {i : StationId}

theorem State.SlotsInOrder.heldFromDrain_eq (hs : s.SlotsInOrder) (hl : s.lot? l.slot = some l) :
    s.heldFromDrain l.slot =
      s.putLot { l with state := .held, cur := { l.cur with runs := endRun s.floorTime l.cur.runs } } := by
  unfold State.heldFromDrain State.endRunOf
  rw [hs.updLot_eq hl (fun l => { l with cur := { l.cur with runs := endRun s.floorTime l.cur.runs } }) rfl,
    hs.setLotState_putLot hl (by rfl)]

theorem drained_of_currentOf (hc : s.currentOf i lot = .ok (h, l)) :
    (l.state.name = .draining → drained i lot s =
      accept ((s.heldFromDrain l.slot).leaveHandler h) (.drained .held l.cur.tested l.cur.good l.holds.length)) ∧
    (l.state.name ≠ .draining → drained i lot s = refuse s .wrongState) := by
  unfold drained
  rw [hc]
  dsimp only
  cases l.state with
  | draining => exact ⟨fun _ => rfl, fun hn => absurd rfl hn⟩
  | _ => exact ⟨fun hn => LotStateName.noConfusion hn, fun _ => rfl⟩

end

/-- Settles O31: the drain's end, and the handler left with and without a reserved lot. -/
theorem drained_ends : Obligations.Drained := by
  refine ⟨fun m lot h l s htakes hs hid hl hb hc => ?_, fun s h => ⟨State.leaveHandler_free, fun k => State.leaveHandler_reserved⟩⟩
  have hin : s.taken.SlotsInOrder := hs
  obtain ⟨hdraining, hother⟩ := drained_of_currentOf (State.currentOf_eq_ok (s := s.taken) hid hl hb hc)
  refine ⟨fun hn => State.request_answers htakes ?_, fun hn => State.request_answers htakes (hother hn)⟩
  rw [hdraining hn, hin.heldFromDrain_eq (hs.lot?_of_named hl)]
  rfl

end Sys2Proof.Machine
end

section
/-! SUPPORT. LOT_END: the close of a step and the three ways on. -/

namespace Sys2Proof.Machine

section
variable {s : State} {l : Lot}

theorem State.SlotsInOrder.addHoldIf_eq (hs : s.SlotsInOrder) (hl : s.lot? l.slot = some l) (c : Bool) (r : HoldReason) :
    s.addHoldIf c l.slot r =
      if c = true ∧ l.hasHold r = false then (s.holdMarked.putLot (l.withHold ⟨r, s.floorTime, none, 0⟩), true)
      else (s, false) := by
  unfold State.addHoldIf
  cases c with
  | false => rw [if_neg Bool.false_ne_true, if_neg (fun h => Bool.false_ne_true h.1)]
  | true =>
    rw [if_pos rfl]
    cases hhas : l.hasHold r with
    | false => rw [if_pos ⟨rfl, rfl⟩, hs.addHold_eq hl hhas]
    | true => rw [if_neg (fun h => Bool.noConfusion h.2), State.addHold_of_lot hl, if_pos hhas]

theorem State.holdMarked_holdMarked_putLot (s : State) (a b : Lot) (h : a.slot = b.slot) :
    (s.holdMarked.putLot a).holdMarked.putLot b = s.holdMarked.putLot b := by
  have hmarked : s.holdMarked.holdMarked = s.holdMarked := s.markRoles_markRoles _ _ _
  have hputs := State.putLot_putLot s.holdMarked.holdMarked a b h
  rw [hmarked] at hputs
  exact (State.putLot_putLot s.holdMarked.holdMarked a b h).trans (by rw [hmarked])

theorem Lot.hasHold_withHold_ne (l : Lot) {e : HoldEntry} {r : HoldReason} (h : e.reason ≠ r) :
    (l.withHold e).hasHold r = l.hasHold r := by
  rw [Bool.eq_iff_iff, Lot.hasHold, Lot.hasHold, List.any_eq_true, List.any_eq_true]
  refine ⟨fun ⟨x, hx, hr⟩ => ?_, fun ⟨x, hx, hr⟩ => ⟨x, mem_insertHold.2 (.inr hx), hr⟩⟩
  rcases mem_insertHold.1 hx with rfl | hx
  · exact absurd (of_decide_eq_true hr) h
  · exact ⟨x, hx, hr⟩

/-- The record of a lot whose step closes: the reasons placed as found, the step closed (R18, R138). -/
def Lot.closing (l : Lot) (t : Time) (short noGood : Bool) : Lot :=
  let a := if short then l.withHold ⟨.countShort, t, none, 0⟩ else l
  { (if noGood then a.withHold ⟨.noGoodUnits, t, none, 0⟩ else a) with cur := l.cur.close t }

/-- The reasons that the close of a step places. -/
def closingReasons (short noGood : Bool) : List HoldReason :=
  (if short then [.countShort] else []) ++ (if noGood then [.noGoodUnits] else [])

theorem State.SlotsInOrder.closeStep_eq (hs : s.SlotsInOrder) (hl : s.lot? l.slot = some l) {short noGood : Bool}
    (hshort : short = true ↔ (s.stepOf l).tolerance < l.cur.missingCount ∧ l.hasHold .countShort = false)
    (hnoGood : noGood = true ↔ l.cur.good = 0 ∧ l.hasHold .noGoodUnits = false) :
    s.closeStep l =
      ((if closingReasons short noGood = [] then s else s.holdMarked).putLot (l.closing s.floorTime short noGood),
        closingReasons short noGood) := by
  have hmarked := hs.holdMarked
  have hslot : ∀ x : Lot, ({ x with cur := x.cur.close s.floorTime } : Lot).slot = x.slot := fun _ => rfl
  let short' : HoldEntry := ⟨.countShort, s.floorTime, none, 0⟩
  let noGood' : HoldEntry := ⟨.noGoodUnits, s.floorTime, none, 0⟩
  unfold State.closeStep
  dsimp only
  rw [hs.addHoldIf_eq hl]
  simp only [decide_eq_true_eq]
  rw [if_congr hshort.symm rfl rfl]
  cases short with
  | false =>
    rw [if_neg Bool.false_ne_true, hs.addHoldIf_eq hl]
    simp only [decide_eq_true_eq]
    rw [if_congr hnoGood.symm rfl rfl]
    cases noGood with
    | false => exact Prod.ext (hs.updLot_eq hl _ (hslot l)) rfl
    | true => exact Prod.ext (hmarked.updLot_putLot hl (x := l.withHold noGood') rfl hslot) rfl
  | true =>
    have hput := hs.lot?_holdMarked_putLot hl (x := l.withHold short') rfl
    have hin := hmarked.putLot (l.withHold short')
    have hsame : (l.withHold short').hasHold .noGoodUnits = l.hasHold .noGoodUnits :=
      l.hasHold_withHold_ne (by intro h; exact HoldReason.noConfusion h)
    have hadd := hin.addHoldIf_eq (l := l.withHold short') hput (l.cur.good = 0) .noGoodUnits
    rw [hsame] at hadd
    simp only [decide_eq_true_eq] at hadd
    rw [if_congr hnoGood.symm rfl rfl] at hadd
    rw [if_pos rfl]
    refine Prod.ext ?_ ?_
    · dsimp only
      rw [show ((s.holdMarked.putLot (l.withHold short')).addHoldIf (l.cur.good = 0) l.slot .noGoodUnits) = _ from hadd]
      cases noGood with
      | false => exact hmarked.updLot_putLot hl (x := l.withHold short') rfl hslot
      | true =>
        rw [if_pos rfl]
        dsimp only
        rw [State.holdMarked_holdMarked_putLot s _ _ (by rfl)]
        exact hmarked.updLot_putLot hl (x := (l.withHold short').withHold noGood') rfl hslot
    · dsimp only
      rw [show ((s.holdMarked.putLot (l.withHold short')).addHoldIf (l.cur.good = 0) l.slot .noGoodUnits) = _ from hadd]
      cases noGood <;> rfl

/-- Where a lot goes whose closed record has been put (R19). -/
theorem State.SlotsInOrder.afterClose_putLot (hs : s.SlotsInOrder) (hl : s.lot? l.slot = some l) {x : Lot} (hx : x.slot = l.slot) :
    (s.putLot x).afterClose l.slot =
      if x.holds ≠ [] then s.putLot { x with state := .held }
      else if s.stepsRemain x then s.putQueued x.openNext
      else (s.putLot { x with state := .complete none }).markComplete x := by
  unfold State.afterClose
  rw [hs.lot?_putLot_of hl hx]
  dsimp only
  by_cases hholds : x.holds = []
  · rw [if_pos (List.isEmpty_iff.2 hholds), if_neg (not_not.2 hholds)]
    exact hs.proceed_putLot hl hx
  · rw [if_neg (fun h => hholds (List.isEmpty_iff.1 h)), if_pos hholds]
    exact hs.setLotState_putLot hl hx .held

theorem State.leaveHandler_stateNameOf (s : State) (h : HandlerId) (k : Slot) :
    (s.leaveHandler h).stateNameOf k = s.stateNameOf k := by
  obtain ⟨gs, hs, ss, e⟩ := s.leaveHandler_frame h
  rw [e]
  rfl

theorem lotEnd_of_currentOf {i : StationId} {lot : Text} {h : HandlerId} (hc : s.currentOf i lot = .ok (h, l)) :
    lotEnd i lot s = s.endLot h l := by
  unfold lotEnd
  rw [hc]

/-- LOT_END of a current lot, by the record that its close leaves (R17 to R19). -/
theorem State.endLot_eq (h : HandlerId) {c : State} {x y : Lot}
    {placed : List HoldReason} (hclose : s.closeStep l = (c.putLot x, placed)) {u : State}
    (hu : (c.putLot x).afterClose l.slot = u) (hy : u.lot? l.slot = some y) :
    s.endLot h l =
      accept (u.leaveHandler h) (.lotEnded y.state.name l.cur.missingCount l.cur.yieldAtClose placed) := by
  unfold State.endLot
  rw [hclose]
  dsimp only
  rw [hu, State.leaveHandler_stateNameOf, State.stateNameOf_of hy]

theorem insertHold_ne_nil (e : HoldEntry) (es : List HoldEntry) : insertHold e es ≠ [] := fun h =>
  List.not_mem_nil (h ▸ mem_insertHold.2 (.inl rfl) : e ∈ [])

end

/-- Settles O26: the record that the close leaves, and the lot's way on by its hold set and its route. -/
theorem lotEnd_ends : Obligations.LotEnd := by
  intro m lot h l s htakes hs hid hl hb hc missing short noGood placed holds1 holds2 yield closed marked put ends
  have hin : s.taken.SlotsInOrder := hs
  have hlot : s.taken.lot? l.slot = some l := hs.lot?_of_named hl
  have hblock := lotEnd_of_currentOf (State.currentOf_eq_ok (s := s.taken) hid hl hb hc)
  have hclose := hin.closeStep_eq hlot (short := decide short) (noGood := decide noGood) decide_eq_true_iff decide_eq_true_iff
  have hplaced : closingReasons (decide short) (decide noGood) = placed := by
    simp only [closingReasons, decide_eq_true_eq]
    rfl
  have hmarked : (if placed = [] then s.taken else s.taken.holdMarked) = marked := rfl
  have hrecord : l.closing s.floorTime (decide short) (decide noGood) = { l with holds := holds2, cur := closed } := by
    have hshort : (if short then l.withHold ⟨.countShort, s.floorTime, none, 0⟩ else l) = { l with holds := holds1 } := by
      unfold holds1
      split <;> rfl
    simp only [Lot.closing, decide_eq_true_eq]
    rw [hshort]
    unfold holds2
    split <;> rfl
  have hmarkedLots : marked.lots = s.lots := by
    unfold marked
    split <;> rfl
  have hput : ∀ x : Lot, x.slot = l.slot → marked.putLot x = put x := fun x hx => by
    rw [State.putLot, hmarkedLots, hx]
  have hinMarked : marked.SlotsInOrder := by rw [State.SlotsInOrder, hmarkedLots]; exact hs
  have hlotMarked : marked.lot? l.slot = some l := by rw [State.lot?, hmarkedLots]; exact hlot
  rw [hplaced, show (if placed = [] then s.taken else s.taken.holdMarked) = marked from rfl,
    show s.taken.floorTime = s.floorTime from rfl, hrecord] at hclose
  have hafter := hinMarked.afterClose_putLot hlotMarked (x := { l with holds := holds2, cur := closed }) rfl
  have hends : ∀ (u : State) (y : Lot), (marked.putLot { l with holds := holds2, cur := closed }).afterClose l.slot = u →
      u.lot? l.slot = some y → ends u y.state.name := fun u y hu hy =>
    State.request_answers htakes (hblock.trans (State.endLot_eq h hclose hu hy))
  have hsame : holds2 = [] → placed = [] ∧ l.holds = [] := by
    intro hempty
    have hnotNoGood : ¬ noGood := fun hn => insertHold_ne_nil _ _ ((if_pos hn).symm.trans hempty)
    have hholds1 : holds1 = [] := (if_neg hnotNoGood).symm.trans hempty
    have hnotShort : ¬ short := fun hn => insertHold_ne_nil _ _ ((if_pos hn).symm.trans hholds1)
    exact ⟨by unfold placed; rw [if_neg hnotShort, if_neg hnotNoGood]; rfl, (if_neg hnotShort).symm.trans hholds1⟩
  have hclean : holds2 = [] → (marked.putLot { l with holds := holds2, cur := closed }).afterClose l.slot =
      if s.stepsRemain l then s.taken.putQueued { l with cur := closed }.openNext
      else (s.taken.putLot { l with cur := closed, state := .complete none }).markComplete l := by
    intro hholds
    obtain ⟨hnone, hlholds⟩ := hsame hholds
    have hmarkedTaken : marked = s.taken := if_pos hnone
    have hkept : ({ l with holds := holds2, cur := closed } : Lot) = { l with cur := closed } :=
      congrArg (fun hs => ({ l with holds := hs, cur := closed } : Lot)) (hholds.trans hlholds.symm)
    rw [hafter, if_neg (not_not.2 hholds), hmarkedTaken, hkept]
    rfl
  refine ⟨fun hholds => ?_, fun hholds hsteps => ?_, fun hholds hsteps => ?_⟩
  · rw [if_pos hholds] at hafter
    rw [← hput _ (by rfl)]
    exact hends _ _ hafter (hinMarked.lot?_putLot_of hlotMarked (by rfl))
  · intro next stamp
    have hway := (hclean hholds).trans (if_pos (decide_eq_true hsteps))
    have hmarkedTaken : marked = s.taken := if_pos (hsame hholds).1
    have hanswer := hends _ _ hway (hin.lot?_putQueued hlot (by rfl))
    rw [← hput _ (by rfl), hmarkedTaken]
    exact hanswer
  · have hlast : ¬ s.stepsRemain l = true := by rw [State.stepsRemain, decide_eq_true_eq]; exact Nat.not_lt.2 hsteps
    have hway := (hclean hholds).trans (if_neg hlast)
    have hmarkedTaken : marked = s.taken := if_pos (hsame hholds).1
    rw [State.markComplete_eq] at hway
    have hanswer := hends _ _ hway (hin.lot?_putLot_of hlot (by rfl))
    rw [← hput _ (by rfl), hmarkedTaken]
    exact hanswer

end Sys2Proof.Machine
end

section
/-! SUPPORT. Dispatch: which lot a selection chooses, the order of the queues, and the requests that call, begin and rank work. -/

namespace Sys2Proof.Machine

/-! ### The lot that comes first in an order -/

section
variable {lt : Lot → Lot → Bool}

theorem foldl_firstBy_some (xs : List Lot) (b : Lot) : ∃ l, xs.foldl (firstBy lt) (some b) = some l := by
  induction xs generalizing b with
  | nil => exact ⟨b, rfl⟩
  | cons x xs ih =>
    rw [List.foldl_cons, firstBy]
    split
    · exact ih x
    · exact ih b

theorem foldl_firstBy_none {xs : List Lot} : xs.foldl (firstBy lt) none = none ↔ xs = [] := by
  cases xs with
  | nil => exact ⟨fun _ => rfl, fun _ => rfl⟩
  | cons x xs =>
    obtain ⟨l, hl⟩ := foldl_firstBy_some (lt := lt) xs x
    exact ⟨fun h => absurd (hl.symm.trans h) (by simp), fun h => absurd h (by simp)⟩

/-- No lot of the list comes before the lot chosen, and the one to start from is chosen or comes after it. -/
theorem foldl_firstBy_least (htrans : ∀ a b c, lt a b = true → lt b c = true → lt a c = true) (hirrefl : ∀ a, ¬ lt a a = true)
    {xs : List Lot} {a : Option Lot} {l : Lot} (h : xs.foldl (firstBy lt) a = some l) :
    (∀ b, a = some b → l = b ∨ lt l b = true) ∧ ∀ x ∈ xs, ¬ lt x l = true := by
  have hself : ∀ x, l = x ∨ lt l x = true → ¬ lt x l = true := by
    rintro x (rfl | hlt)
    · exact hirrefl l
    · exact fun hx => hirrefl x (htrans x l x hx hlt)
  induction xs generalizing a with
  | nil => exact ⟨fun b hb => .inl (Option.some.inj (h.symm.trans hb)), by simp⟩
  | cons x xs ih =>
    obtain ⟨hstart, hrest⟩ := ih h
    refine ⟨?_, List.forall_mem_cons.2 ⟨?_, hrest⟩⟩
    · rintro b rfl
      by_cases hx : lt x b = true
      · rcases hstart x (if_pos hx) with rfl | hlt
        · exact .inr hx
        · exact .inr (htrans l x b hlt hx)
      · exact hstart b (if_neg hx)
    · cases a with
      | none => exact hself x (hstart x rfl)
      | some b =>
        by_cases hx : lt x b = true
        · exact hself x (hstart x (if_pos hx))
        · intro hxl
          rcases hstart b (if_neg hx) with rfl | hlt
          · exact hx hxl
          · exact hx (htrans x l b hxl hlt)

end

/-! ### The orders by stamp and by score -/

theorem stampLt_iff (a b : Lot) : stampLt a b = true ↔ a.stamp < b.stamp ∨ (a.stamp = b.stamp ∧ a.slot < b.slot) := by
  rw [stampLt, Bool.or_eq_true, Bool.and_eq_true, decide_eq_true_eq, decide_eq_true_eq, decide_eq_true_eq]

theorem not_stampLt_iff (a b : Lot) : ¬ stampLt a b = true ↔ b.stamp < a.stamp ∨ (b.stamp = a.stamp ∧ b.slot ≤ a.slot) := by
  rw [stampLt_iff, Fin.lt_def, Fin.le_def]
  omega

theorem stampLt_trans (a b c : Lot) (h : stampLt a b = true) (h' : stampLt b c = true) : stampLt a c = true := by
  rw [stampLt_iff, Fin.lt_def] at *
  omega

theorem stampLt_irrefl (a : Lot) : ¬ stampLt a a = true := by
  rw [stampLt_iff, Fin.lt_def]
  omega

section
variable {s : State} {h : HandlerId}

theorem State.scoreLt_iff (a b : Lot) :
    s.scoreLt h a b = true ↔ s.score h a < s.score h b ∨ (s.score h a = s.score h b ∧ stampLt a b = true) := by
  rw [State.scoreLt, Bool.or_eq_true, Bool.and_eq_true, decide_eq_true_eq, decide_eq_true_eq]

theorem State.not_scoreLt_iff (a b : Lot) :
    ¬ s.scoreLt h a b = true ↔ s.score h b < s.score h a ∨ (s.score h b = s.score h a ∧ ¬ stampLt a b = true) := by
  rw [State.scoreLt_iff, not_or, not_and, not_lt, le_iff_lt_or_eq]
  refine ⟨fun ⟨hle, hstamp⟩ => hle.imp_right fun heq => ⟨heq, hstamp heq.symm⟩, ?_⟩
  rintro (hlt | ⟨heq, hstamp⟩)
  · exact ⟨.inl hlt, fun heq => absurd heq (ne_of_gt hlt)⟩
  · exact ⟨.inr heq, fun _ => hstamp⟩

theorem State.scoreLt_trans (a b c : Lot) (hab : s.scoreLt h a b = true) (hbc : s.scoreLt h b c = true) :
    s.scoreLt h a c = true := by
  rw [State.scoreLt_iff] at *
  rcases hab with hab | ⟨hab, hstamp⟩
  · exact .inl (by omega)
  · rcases hbc with hbc | ⟨hbc, hstamp'⟩
    · exact .inl (by omega)
    · exact .inr ⟨hab.trans hbc, stampLt_trans a b c hstamp hstamp'⟩

theorem State.scoreLt_irrefl (a : Lot) : ¬ s.scoreLt h a a = true := by
  rw [State.scoreLt_iff]
  rintro (hlt | ⟨-, hstamp⟩)
  · omega
  · exact stampLt_irrefl a hstamp

/-! ### Eligible lots and the choice among them -/

theorem Lot.isQueued_iff (l : Lot) : l.isQueued = true ↔ ∃ w, l.state = .queued w := by
  unfold Lot.isQueued
  cases l.state <;> simp

theorem Lot.isQueued_iff_name (l : Lot) : l.isQueued = true ↔ l.state.name = .queued := by
  unfold Lot.isQueued
  cases l.state <;> simp [LotState.name]

/-- A handler is capable of a class and has a site enabled exactly when its configuration says so. -/
theorem Handler.capable_and_sites (x : Handler) (c : TempClass) :
    x.capable c = true ∧ x.sites ≠ 0 ↔
      ∃ k, x.config = some k ∧ k.capability.getLsbD (capabilityBit c) = true ∧ k.sitesEnabled ≠ 0 := by
  unfold Handler.capable Handler.sites
  cases x.config <;> simp

theorem State.hasCapacity_iff (r : Resolved) :
    s.hasCapacity r = true ↔ ∀ d : DevId, r.deviation = some d → ∃ e, s.deviations[d] = some e ∧ e.pending < e.remaining := by
  unfold State.hasCapacity
  cases r.deviation <;> simp [Option.any_eq_true]

theorem State.mem_candidates {l : Lot} : l ∈ s.candidates h ↔ l ∈ s.lots ∧ s.eligible h l = true := List.mem_filter

theorem State.select_none : s.select h = none ↔ ∀ l ∈ s.lots, s.eligible h l = false := by
  have hempty : s.candidates h = [] ↔ ∀ l ∈ s.lots, s.eligible h l = false := by
    rw [State.candidates, List.filter_eq_nil_iff]
    simp
  rw [← hempty, ← foldl_firstBy_none (lt := s.scoreLt h)]
  unfold State.select
  split
  · next l hl =>
    refine ⟨fun hno => by simp at hno, fun hno => ?_⟩
    rw [foldl_firstBy_none.1 hno] at hl
    simp at hl
  · split
    · next l hl => rw [hl]; simp
    · next hno => rw [hno]; simp

/-- The lot chosen and the way it is chosen (R55). -/
theorem State.select_some {l : Lot} {c : Choice} (e : s.select h = some (l, c)) :
    (c = .overdue ∧ s.overdue l = true ∧
        (∀ x ∈ s.lots, s.eligible h x = true → s.overdue x = true → ¬ stampLt x l = true)) ∨
      (c = .byScore (s.changeover h l) (s.score h l) ∧
        (∀ x ∈ s.lots, s.eligible h x = true → s.overdue x = false ∧ ¬ s.scoreLt h x l = true)) := by
  unfold State.select at e
  split at e
  · next y hy =>
    cases e
    have hmem : l ∈ (s.candidates h).filter s.overdue := (foldl_firstBy_mem hy).resolve_left (by simp)
    refine .inl ⟨rfl, (List.mem_filter.1 hmem).2, fun x hx hel hover => ?_⟩
    exact (foldl_firstBy_least stampLt_trans stampLt_irrefl hy).2 x
      (List.mem_filter.2 ⟨State.mem_candidates.2 ⟨hx, hel⟩, hover⟩)
  · next hno =>
    split at e
    · next y hy =>
      cases e
      refine .inr ⟨rfl, fun x hx hel => ?_⟩
      have hx' := State.mem_candidates.2 ⟨hx, hel⟩
      refine ⟨?_, (foldl_firstBy_least State.scoreLt_trans State.scoreLt_irrefl hy).2 x hx'⟩
      exact Bool.eq_false_iff.2 (List.filter_eq_nil_iff.1 (foldl_firstBy_none.1 hno) x hx')
    · cases e

/-! ### The changeover and the resolved program -/

/-- The entry names the lot's product, its current step and the revision of its route (R92). -/
theorem deviation_names_iff (e : Deviation) (l : Lot) (n : Nat) :
    (e.product = l.product && e.step = l.stepNumber && e.fromRevision = n) = true ↔
      e.product = l.product ∧ e.step = l.past.length + 1 ∧ e.fromRevision = n := by
  rw [Bool.and_eq_true, Bool.and_eq_true, decide_eq_true_eq, decide_eq_true_eq, decide_eq_true_eq, and_assoc, Lot.stepNumber]

theorem State.resolve_of_none {l : Lot}
    (hno : ∀ (d : DevId) e, s.deviations[d] = some e →
      ¬ (e.product = l.product ∧ e.step = l.past.length + 1 ∧ e.fromRevision = (s.stepOf l).program.revision)) :
    s.resolve l = ⟨(s.stepOf l).program, none⟩ := by
  have hnone : s.deviationFor? l = none := lowestIndex_none.2 fun d => by
    cases hd : s.deviations[d] with
    | none => rfl
    | some e => exact Bool.eq_false_iff.2 fun h => hno d e hd ((deviation_names_iff e l _).1 h)
  unfold State.resolve
  rw [hnone]

theorem State.resolve_of_some {l : Lot} {d : DevId} {e : Deviation} (hd : s.deviations[d] = some e)
    (hproduct : e.product = l.product) (hstep : e.step = l.past.length + 1)
    (hrevision : e.fromRevision = (s.stepOf l).program.revision)
    (hlow : ∀ j : DevId, j < d → ∀ x, s.deviations[j] = some x →
      ¬ (x.product = l.product ∧ x.step = l.past.length + 1 ∧ x.fromRevision = (s.stepOf l).program.revision)) :
    s.resolve l = ⟨⟨(s.stepOf l).program.id, e.substitute⟩, some d⟩ := by
  have hfor : s.deviationFor? l = some d := by
    refine lowestIndex_eq_some ?_ fun j hj => ?_
    · rw [hd]
      exact (deviation_names_iff e l _).2 ⟨hproduct, hstep, hrevision⟩
    · cases hx : s.deviations[j] with
      | none => rfl
      | some x => exact Bool.eq_false_iff.2 fun h => hlow j hj x hx ((deviation_names_iff x l _).1 h)
  unfold State.resolve
  rw [hfor]
  dsimp only
  rw [hd]

theorem State.temperatureTerm_eq (st : RouteStep) :
    s.temperatureTerm h st =
      if s.handlers[h].setpoint = some st.setpoint then 0
      else (st.setpoint - s.handlers[h].setpoint.getD 25).natAbs * s.handlers[h].rampRate + st.soak := by
  unfold State.temperatureTerm
  cases s.handlers[h].setpoint with
  | none => rfl
  | some c => simp only [Option.some.injEq, Option.getD_some]

theorem State.programTerm_eq (p : Program) :
    s.programTerm h p =
      if s.handlers[h].docked.any (fun u : TesterId => s.testers[u].atHand p) then 0 else s.estimateOf p := by
  unfold State.programTerm
  cases s.handlers[h].docked <;> rfl

end

/-- Settles O32: the selection as the first of two orders, and the terms of the changeover. -/
theorem selection : Obligations.Selection := by
  refine ⟨fun s h => ⟨fun l => ?_, State.select_none, fun l c hselect => ?_⟩, ?_⟩
  · rw [State.eligible_iff, l.isQueued_iff, ← Handler.capable_and_sites, ← State.hasCapacity_iff]
    tauto
  · obtain ⟨hmem, hel⟩ := State.select_candidate hselect
    refine ⟨hmem, hel, (State.select_some hselect).imp (fun ⟨hc, hover, hfirst⟩ => ⟨hc, hover, fun x hx hxel hxover => ?_⟩)
      (fun ⟨hc, hfirst⟩ => ⟨hc, fun x hx hxel => ?_⟩)⟩
    · exact (not_stampLt_iff x l).1 (hfirst x hx hxel hxover)
    · obtain ⟨hover, hnot⟩ := hfirst x hx hxel
      refine ⟨hover, (State.not_scoreLt_iff x l).1 hnot |>.imp_right fun ⟨heq, hstamp⟩ => ⟨heq, (not_stampLt_iff x l).1 hstamp⟩⟩
  · intro s h l st from'
    refine ⟨?_, fun hno => State.resolve_of_none hno, fun d e hd hproduct hstep hrevision hlow =>
      State.resolve_of_some hd hproduct hstep hrevision hlow⟩
    rw [State.changeover, State.kitTerm, State.temperatureTerm_eq, State.programTerm_eq]

/-! ### The queues in order -/

theorem queueLe_iff (a b : Lot) : queueLe a b = true ↔ a.priority < b.priority ∨ (a.priority = b.priority ∧
    (a.stamp < b.stamp ∨ (a.stamp = b.stamp ∧ a.slot ≤ b.slot))) := by
  simp only [queueLe, Bool.or_eq_true, Bool.and_eq_true, decide_eq_true_eq]

theorem waitingLe_iff (a b : Lot) :
    waitingLe a b = true ↔ a.waitingStamp < b.waitingStamp ∨ (a.waitingStamp = b.waitingStamp ∧ a.slot ≤ b.slot) := by
  simp only [waitingLe, Bool.or_eq_true, Bool.and_eq_true, decide_eq_true_eq]

theorem queue_pairwise (s : State) (c : TempClass) : (s.queue c).Pairwise (fun a b => queueLe a b = true) := by
  have : Std.Total (fun a b => queueLe a b = true) := ⟨fun a b => by
    rw [queueLe_iff, queueLe_iff, Fin.le_def, Fin.le_def]; omega⟩
  have : IsTrans Lot (fun a b => queueLe a b = true) := ⟨fun a b c => by
    rw [queueLe_iff, queueLe_iff, queueLe_iff, Fin.le_def, Fin.le_def, Fin.le_def]; omega⟩
  exact List.pairwise_insertionSort _ _

theorem waitingList_pairwise (s : State) : s.waitingList.Pairwise (fun a b => waitingLe a b = true) := by
  have : Std.Total (fun a b => waitingLe a b = true) := ⟨fun a b => by
    rw [waitingLe_iff, waitingLe_iff, Fin.le_def, Fin.le_def]; omega⟩
  have : IsTrans Lot (fun a b => waitingLe a b = true) := ⟨fun a b c => by
    rw [waitingLe_iff, waitingLe_iff, waitingLe_iff, Fin.le_def, Fin.le_def, Fin.le_def]; omega⟩
  exact List.pairwise_insertionSort _ _

/-- Settles O33: both lists are insertion sorts by total orders of filtered lots. -/
theorem queueOrders : Obligations.QueueOrders := by
  refine fun s => ⟨fun c => ⟨?_, (queue_pairwise s c).imp fun h => (queueLe_iff _ _).1 h⟩, fun t => rfl,
    List.perm_insertionSort (fun a b => waitingLe a b = true) _, (waitingList_pairwise s).imp fun h => (waitingLe_iff _ _).1 h⟩
  have hqueued : ∀ l : Lot, l.isQueued = decide (l.state.name = .queued) := fun l => by
    rw [Bool.eq_iff_iff, l.isQueued_iff_name, decide_eq_true_eq]
  rw [State.queue, funext hqueued]
  exact List.perm_insertionSort (fun a b => queueLe a b = true) _

end Sys2Proof.Machine
end

section
/-! SUPPORT. Dispatch: the requests that call, begin and rank work, and the settings. -/

namespace Sys2Proof.Machine

/-! ### CALL_WORK -/

section
variable {s : State} {i : StationId} {h : HandlerId}

theorem callWork_of_bound (hb : s.stations[i].bound = some h) : callWork i s = s.callWorkOn h := by
  unfold callWork
  rw [hb]

theorem State.callWorkOn_locked (hlock : s.handlers[h].lock ≠ none) : s.callWorkOn h = refuse s .locked :=
  if_pos (Option.isSome_iff_ne_none.2 hlock)

/-- CALL_WORK for a handler without a lock. -/
theorem State.callWorkOn_unlocked (hlock : s.handlers[h].lock = none) :
    s.callWorkOn h =
      if s.handlers[h].cell ≠ .idle ∨ s.handlers[h].docked = none then refuse s .wrongState
      else
        match s.select h with
        | none => refuse s .empty
        | some (l, c) => accept (s.reserve h l) (s.workAnswer (s.reserve h l) h l c) := by
  unfold State.callWorkOn
  rw [hlock]
  simp only [Option.isSome_none, Bool.false_eq_true, if_false, Bool.or_eq_true, decide_eq_true_eq, Option.isNone_iff_eq_none] <;> rfl

end

/-- Settles O35: the checks in their order, and the lot chosen. -/
theorem callWork_reserves : Obligations.CallWork := by
  intro m h s htakes hb
  have hblock := callWork_of_bound (s := s.taken) hb
  refine ⟨fun hlock => ?_, fun hlock hnot => ?_, fun hlock hidle hdocked hnone => ?_,
    fun hlock hidle hdocked l c hselect => ?_⟩
  · exact State.request_answers htakes (hblock.trans (State.callWorkOn_locked (s := s.taken) hlock))
  all_goals
    refine State.request_answers htakes (hblock.trans ((State.callWorkOn_unlocked (s := s.taken) hlock).trans ?_))
  · exact if_pos hnot
  · rw [if_neg (fun hor => hor.elim (fun hn => hn hidle) hdocked), show s.taken.select h = none from hnone] <;> rfl
  · rw [if_neg (fun hor => hor.elim (fun hn => hn hidle) hdocked), show s.taken.select h = some (l, c) from hselect] <;> rfl

/-! ### LOT_BEGIN -/

section
variable {s : State} {i : StationId} {h : HandlerId} {lot : Text} {l : Lot}

theorem lotBegin_of_named (hid : lotIdOk lot = true) (hl : s.lotNamed? lot = some l) (hb : s.stations[i].bound = some h) :
    lotBegin i lot s = if l.state = .held then refuse s .lotHeld else s.beginOn h l := by
  unfold lotBegin
  rw [if_neg (by rw [hid]; decide), hl]
  dsimp only
  rw [hb]

theorem State.beginOn_not_ready (hcell : s.handlers[h].cell.name ≠ .ready) : s.beginOn h l = refuse s .wrongState := by
  unfold State.beginOn
  cases hc : s.handlers[h].cell with
  | ready k => rw [hc] at hcell; exact absurd rfl hcell
  | _ => rfl

theorem State.beginOn_ready {k : Slot} (hcell : s.handlers[h].cell = .ready k) :
    s.beginOn h l =
      if l.slot ≠ k then refuse s .mismatch
      else
        match s.handlers[h].docked, l.state.resolved? with
        | some t, some r => s.beginLot h t l r
        | _, _ => refuse s .wrongState := by
  unfold State.beginOn
  rw [hcell] <;> rfl

theorem Tester.swapTo_eq (x : Tester) (p : Program) :
    x.swapTo p =
      if x.active.map ActiveSlot.program = some p then x
      else match x.staged with
        | some g => { x with active := some ⟨g.program, g.expected, false⟩, staged := none }
        | none => x := by
  have hactive : x.activeHolds p = true ↔ x.active.map ActiveSlot.program = some p := by
    unfold Tester.activeHolds
    cases x.active <;> simp
  unfold Tester.swapTo
  rw [if_congr hactive rfl rfl] <;> rfl

theorem Handler.begin_eq {x : Handler} {c : HandlerConfig} (hc : x.config = some c) (k : Slot) :
    x.begin k = { x with cell := .running k none, stallLeft := c.stallTime, stalled := false } := by
  have htime : x.stallTime = c.stallTime := by rw [Handler.stallTime, hc]; rfl
  rw [Handler.begin, htime]

theorem Deviation.begun_eq (e : Deviation) :
    e.begun =
      if e.remaining ≤ 1 then none
      else some { e with remaining := e.remaining - 1, pending := e.pending - 1, hits := min 255 (e.hits + 1) } := by
  have hlast : e.remaining - 1 = 0 ↔ e.remaining ≤ 1 := by omega
  unfold Deviation.begun
  rw [if_congr hlast rfl rfl, holdAt_eq]
  rfl

theorem State.useDeviation_eq (s : State) (d : Option DevId) :
    s.useDeviation d = { s with deviations := match d with
      | none => s.deviations
      | some d => s.deviations.set d (s.deviations[d].bind Deviation.begun) } := by
  cases d <;> rfl

/-- The begin of a lot, table by table (R59). -/
theorem State.SlotsInOrder.beginLot_eq (hs : s.SlotsInOrder) (hl : s.lot? l.slot = some l) (u : TesterId) (r : Resolved) :
    s.beginLot h u l r =
      accept { s.putLot (l.begin h r (s.newRun h u r)) with
          testers := s.testers.set u (s.testers[u].swapTo r.program)
          deviations := match r.deviation with
            | none => s.deviations
            | some d => s.deviations.set d (s.deviations[d].bind Deviation.begun)
          handlers := s.handlers.set h (s.handlers[h].begin l.slot)
          guards := s.guards.set h (some (freshRun l.slot (l.cur.runs.length + 1))) }
        (.lotBegun (l.cur.runs.length + 1) s.floorTime r.program r.deviation) := by
  have hput := hs.updLot_eq hl (Lot.begin h r (s.newRun h u r)) rfl
  have hlots : (s.updLot l.slot (Lot.begin h r (s.newRun h u r))).lots = (s.putLot (l.begin h r (s.newRun h u r))).lots :=
    congrArg State.lots hput
  unfold State.beginLot
  dsimp only
  rw [State.useDeviation_eq]
  simp only [State.updLot, State.updHandler, State.updTester]
  rw [show s.lots.map (fun x => if x.slot = l.slot then Lot.begin h r (s.newRun h u r) x else x) =
    (s.putLot (l.begin h r (s.newRun h u r))).lots from hlots] <;> rfl

end

/-- Settles O38: the refusals in their order, and the tables that a begin writes. -/
theorem lotBegin_begins : Obligations.LotBegin := by
  intro m lot h l s htakes hs hid hl hb
  have hblock := lotBegin_of_named (s := s.taken) hid hl hb
  refine ⟨fun hheld => ?_, fun hlive hcell => ?_, fun k hlive hcell hother => ?_, fun w g r u c hstate hcell hdocked hc => ?_⟩
  · exact State.request_answers htakes (hblock.trans (if_pos hheld))
  · exact State.request_answers htakes (hblock.trans ((if_neg hlive).trans (State.beginOn_not_ready (s := s.taken) hcell)))
  · refine State.request_answers htakes (hblock.trans ((if_neg hlive).trans
      ((State.beginOn_ready (s := s.taken) hcell).trans (if_pos (Ne.symm hother)))))
  · intro run
    have hlive : l.state ≠ .held := by rw [hstate]; exact LotState.noConfusion
    have hin : s.taken.SlotsInOrder := hs
    refine State.request_answers htakes (hblock.trans ((if_neg hlive).trans
      ((State.beginOn_ready (s := s.taken) hcell).trans ((if_neg (not_not.2 rfl)).trans ?_))))
    rw [show s.taken.handlers[h].docked = some u from hdocked, hstate]
    refine (hin.beginLot_eq (hs.lot?_of_named hl) u r).trans ?_
    rw [Tester.swapTo_eq, Handler.begin_eq (x := s.taken.handlers[h]) hc, funext Deviation.begun_eq] <;> rfl

/-! ### The maintenance lock, LOT_PRIORITY, DISPATCH_CONFIG and SITE_ENABLE -/

section
variable {s : State} {i : StationId} {h : HandlerId}

/-- A sender that serves a handler, by its role where no lock stands or by its lock, passes both checks (R68, R75). -/
theorem State.serves {rs : List Role}
    (hserves : (s.rolesOf i).hasAny rs = true ∧ s.handlers[h].lock = none ∨ s.handlers[h].lock = some i) :
    s.mayServe i rs h = true ∧ s.lockedAgainst i h = false := by
  rw [State.mayServe, Bool.or_eq_true, decide_eq_true_eq, State.lockedAgainst]
  rcases hserves with ⟨hrole, hlock⟩ | hlock
  · exact ⟨.inl hrole, by rw [hlock]; rfl⟩
  · refine ⟨.inr hlock, ?_⟩
    rw [hlock]
    exact decide_eq_false (not_not.2 rfl)

variable {lot : Text} {l : Lot} {p : Nat}

theorem LotState.wait?_isSome_iff (x : LotState) : x.wait?.isSome = true ↔ x.name = .queued ∨ x.name = .reserved := by
  cases x <;> simp [LotState.wait?, LotState.name]

theorem lotPriority_of_named (hid : lotIdOk lot = true) (hl : s.lotNamed? lot = some l) (hp : p ≤ 3) :
    lotPriority lot p s =
      if l.state.wait?.isSome then
        let s1 := s.updLot l.slot (fun l => { l with priority := p })
        accept s1 (.priority l.state.name (s1.positionOf l.slot))
      else refuse s .wrongState := by
  unfold lotPriority
  rw [if_neg (by simp [hid, hp]), hl]

theorem State.positionOf_eq {k : Slot} (hl : s.lot? k = some l) :
    s.positionOf k = if l.isQueued then some (s.queuePosition l) else none := by
  unfold State.positionOf
  rw [hl]

theorem settingsGivenOk_iff (a b c : Nat) : settingsGivenOk ⟨a, b, c⟩ = true ↔ a ≤ 65535 ∧ b ≤ 255 ∧ c ≤ 65535 := by
  rw [settingsGivenOk, Bool.and_eq_true, Bool.and_eq_true, within_iff, within_iff, within_iff]
  dsimp only
  omega

theorem indexBit_eq (i : SiteIx) : (1 <<< i.val : BitVec 8) = BitVec.ofNat 8 (2 ^ i.val) := by
  revert i; decide

theorem RoleSet.hasAny_singleton (rs : RoleSet) (r : Role) : rs.hasAny [r] = rs.has r := Bool.or_false _

theorem siteEnable_eq {x : SiteIx} {c : HandlerConfig}
    (hserves : (s.rolesOf i).has .engineering = true ∧ s.handlers[h].lock = none ∨ s.handlers[h].lock = some i)
    (hc : s.handlers[h].config = some c) (hsite : number x ≤ c.siteCount) :
    siteEnable i (number h) (number x) s = s.enableSite h c x := by
  rw [← RoleSet.hasAny_singleton] at hserves
  obtain ⟨hmay, hfree⟩ := State.serves hserves
  unfold siteEnable
  rw [indexOfNumber?_number, indexOfNumber?_number]
  dsimp only
  rw [hmay, hfree, hc]
  exact if_neg (Nat.not_lt.2 hsite)

end

/-- Settles O39: the three requests, their ranges and refusals. -/
theorem settingsRequests : Obligations.SettingsRequests := by
  intro m s
  refine ⟨fun lot l p htakes hs hid hl hp => ?_, fun a b c htakes => ?_, fun htakes => State.request_answers htakes rfl,
    fun h i c htakes hserves hc hsite => ?_⟩
  · intro t
    have hin : s.taken.SlotsInOrder := hs
    have hlot : s.taken.lot? l.slot = some l := hs.lot?_of_named hl
    have hput : s.taken.updLot l.slot (fun l => { l with priority := p }) = t :=
      hin.updLot_eq hlot (fun l => { l with priority := p }) rfl
    have hnow : t.lot? l.slot = some { l with priority := p } := hin.lot?_putLot_of hlot (by rfl)
    have hblock := lotPriority_of_named (s := s.taken) hid hl hp
    dsimp only at hblock
    rw [hput, State.positionOf_eq hnow] at hblock
    refine ⟨fun w hstate => ?_, fun w h r hstate => ?_, fun hqueued hreserved => ?_⟩
    · refine State.request_answers htakes (hblock.trans ?_)
      rw [Lot.isQueued, hstate]
      rfl
    · refine State.request_answers htakes (hblock.trans ?_)
      rw [Lot.isQueued, hstate]
      rfl
    · refine State.request_answers htakes (hblock.trans (if_neg ?_))
      rw [LotState.wait?_isSome_iff]
      exact fun hor => hor.elim hqueued hreserved
  · intro x
    have hx : storeSettings ⟨a, b, c⟩ = x := rfl
    refine ⟨fun ha hb hc => State.request_answers htakes (if_neg ?_), fun hout => State.request_answers htakes (if_pos ?_)⟩
    · rw [(settingsGivenOk_iff a b c).2 ⟨ha, hb, hc⟩]; decide
    · rw [Bool.not_eq_true', Bool.eq_false_iff]
      intro hok
      obtain ⟨ha, hb, hc⟩ := (settingsGivenOk_iff a b c).1 hok
      omega
  · intro x
    refine (State.request_answers htakes (siteEnable_eq (s := s.taken) hserves hc hsite)).trans ?_
    rw [indexBit_eq]
    rfl

end Sys2Proof.Machine
end

section
/-! SUPPORT. Handlers: configuration, docking, the maintenance lock, and the reports of kit and temperature. -/

namespace Sys2Proof.Machine

theorem Cell.outOfWork_iff (c : Cell) : c.outOfWork = true ↔ c = .offline ∨ c = .idle := by
  cases c <;> simp [Cell.outOfWork]

/-! ### HANDLER_CONFIG, HANDLER_ONLINE and HANDLER_OFFLINE -/

theorem handlerConfigOk_iff (capability : Byte) (sites ramp stall lookahead : Nat) :
    handlerConfigOk capability sites ramp stall lookahead = true ↔
      1 ≤ sites ∧ sites ≤ 8 ∧ capability.toNat < 8 ∧ ramp ≤ 255 ∧ stall ≤ 65535 ∧ lookahead ≤ 65535 := by
  rw [handlerConfigOk, Bool.and_eq_true, Bool.and_eq_true, Bool.and_eq_true, Bool.and_eq_true, within_iff, within_iff, within_iff,
    within_iff, decide_eq_true_eq]
  omega

theorem storeConfig_eq (capability : Byte) (sites ramp stall lookahead : Nat) :
    storeConfig capability sites ramp stall lookahead =
      { capability := capability.setWidth 3, siteCount := sites, sitesEnabled := BitVec.ofNat 8 (2 ^ sites - 1)
        rampRate := max 1 (min 60 ramp), stallTime := max 10 (min 3600 stall), lookahead := min 9999 lookahead } := by
  rw [storeConfig, min_comm lookahead, clamp_eq (by decide), clamp_eq (by decide)]

section
variable {s : State} {i : StationId} {h : HandlerId}

theorem handlerConfig_eq {capability : Byte} {sites ramp stall lookahead : Nat}
    (hok : handlerConfigOk capability sites ramp stall lookahead = true)
    (hserves : (s.rolesOf i).hasAny [.supervisor, .engineering] = true ∧ s.handlers[h].lock = none ∨
      s.handlers[h].lock = some i)
    (hout : s.handlers[h].cell = .offline ∨ s.handlers[h].cell = .idle) :
    handlerConfig i (number h) capability sites ramp stall lookahead s =
      accept (s.updHandler h (fun x => { x with config := some (storeConfig capability sites ramp stall lookahead) }))
        (.handlerConfig (storeConfig capability sites ramp stall lookahead)) := by
  obtain ⟨hmay, hfree⟩ := State.serves hserves
  unfold handlerConfig
  rw [indexOfNumber?_number]
  dsimp only
  rw [hok, hmay, hfree, (Cell.outOfWork_iff _).2 hout]
  rfl

theorem handlerConfig_refused {capability : Byte} {sites ramp stall lookahead : Nat}
    (hok : ¬ handlerConfigOk capability sites ramp stall lookahead = true) :
    handlerConfig i (number h) capability sites ramp stall lookahead s = refuse s .badFormat := by
  unfold handlerConfig
  rw [indexOfNumber?_number]
  exact if_pos (by rw [Bool.eq_false_iff.2 hok]; rfl)

theorem State.onBound_eq {f : HandlerId → Reply} (hb : s.stations[i].bound = some h) : s.onBound i f = f h := by
  unfold State.onBound
  rw [hb]

/-- The two forms of HANDLER_OFFLINE name the handler of the cell, or the one given (R68). -/
theorem State.formHandler_eq {rs : List Role} {named : Option Nat}
    (hform : named = none ∧ s.stations[i].bound = some h ∧ (s.rolesOf i).has .cell = true ∨
      named = some (number h) ∧ (s.rolesOf i).hasAny rs = true) : s.formHandler i rs named = .ok h := by
  unfold State.formHandler
  rcases hform with ⟨rfl, hb, hcell⟩ | ⟨rfl, hrole⟩
  · dsimp only
    rw [hb]
    exact if_pos hcell
  · dsimp only
    rw [indexOfNumber?_number]
    exact if_pos hrole

theorem handlerOffline_eq {named : Option Nat}
    (hform : named = none ∧ s.stations[i].bound = some h ∧ (s.rolesOf i).has .cell = true ∨
      named = some (number h) ∧ (s.rolesOf i).hasAny [.floor, .supervisor] = true) :
    handlerOffline i named s = s.takeOffline h := by
  unfold handlerOffline
  rw [State.formHandler_eq hform]

/-- HANDLER_OFFLINE by the state of the cell (R72). -/
theorem State.takeOffline_eq (s : State) (h : HandlerId) :
    (s.handlers[h].cell = .idle → s.takeOffline h = accept (s.updHandler h Handler.goOffline) .nothing) ∧
    (∀ k, s.handlers[h].cell = .preparing k ∨ s.handlers[h].cell = .ready k →
      s.takeOffline h = accept ((s.cancelReservation k false).updHandler h Handler.goOffline) .nothing) ∧
    (s.handlers[h].cell = .offline → s.takeOffline h = refuse s .wrongState) ∧
    (s.handlers[h].cell.name = .running ∨ s.handlers[h].cell.name = .draining → s.takeOffline h = refuse s .busy) := by
  unfold State.takeOffline
  cases s.handlers[h].cell <;> simp [Cell.name]

end

/-- Settles O40: the ranges of the configuration, and the handler taken on and off line by its cell. -/
theorem handlerSetup : Obligations.HandlerSetup := by
  intro m h s
  refine ⟨fun capability sites ramp stall lookahead htakes h1 h8 hcap hramp hstall hlook hserves hout => ?_,
    fun capability sites ramp stall lookahead htakes hbad => ?_, fun htakes hb hc hcell => ?_, fun named htakes hform => ?_⟩
  · intro c
    have hok := (handlerConfigOk_iff capability sites ramp stall lookahead).2 ⟨h1, h8, hcap, hramp, hstall, hlook⟩
    refine (State.request_answers htakes (handlerConfig_eq (s := s.taken) hok hserves hout)).trans ?_
    rw [storeConfig_eq]
    rfl
  · refine State.request_answers htakes (handlerConfig_refused ?_)
    rw [handlerConfigOk_iff]
    omega
  · refine State.request_answers htakes ((State.onBound_eq (s := s.taken) hb).trans (if_pos ?_))
    rw [Bool.and_eq_true, decide_eq_true_eq]
    exact ⟨Option.isSome_iff_ne_none.2 hc, hcell⟩
  · intro off
    have hblock := handlerOffline_eq (s := s.taken) hform
    obtain ⟨hidle, hreserved, hoffline, hworks⟩ := s.taken.takeOffline_eq h
    exact ⟨fun hcell => State.request_answers htakes (hblock.trans (hidle hcell)),
      fun k hcell => State.request_answers htakes (hblock.trans (hreserved k hcell)),
      fun hcell => State.request_answers htakes (hblock.trans (hoffline hcell)),
      fun hcell => State.request_answers htakes (hblock.trans (hworks hcell))⟩

/-! ### Docking and the maintenance lock -/

section
variable {s : State} {i : StationId} {h : HandlerId} {u : TesterId}

/-- A sender that a lock of another station stands against (R75). -/
theorem State.locked_against {rs : List Role} {j : StationId} (hlock : s.handlers[h].lock = some j) (hj : j ≠ i)
    (hrole : (s.rolesOf i).hasAny rs = true) : s.mayServe i rs h = true ∧ s.lockedAgainst i h = true := by
  rw [State.mayServe, Bool.or_eq_true, State.lockedAgainst, hlock]
  exact ⟨.inl hrole, decide_eq_true hj⟩

/-- DOCK once its sender may serve the handler. -/
theorem dock_of_serves (hmay : s.mayServe i [.engineering, .supervisor] h = true) :
    dock i (number h) (number u) s =
      if s.lockedAgainst i h then refuse s .locked
      else if !(s.handlers[h].config.isSome && s.testers[u].configured) then refuse s .wrongState
      else if !s.handlers[h].cell.outOfWork then refuse s .busy
      else if s.dockTaken h u && !s.dockedTogether h u then refuse s .inUse
      else if s.dockedTogether h u then refuse s .duplicate
      else accept ((s.updHandler h (fun x => { x with docked := some u })).updTester u (fun x => { x with docked := some h }))
        .nothing := by
  unfold dock
  rw [indexOfNumber?_number, indexOfNumber?_number]
  dsimp only
  rw [hmay]
  rfl

/-- UNDOCK once its sender may serve the handler. -/
theorem undock_of_serves (hmay : s.mayServe i [.engineering, .supervisor] h = true) :
    undock i (number h) s =
      if s.lockedAgainst i h then refuse s .locked
      else
        match s.handlers[h].docked with
        | none => refuse s .wrongState
        | some u =>
          if !s.handlers[h].cell.outOfWork then refuse s .busy
          else accept ((s.updHandler h (fun x => { x with docked := none })).updTester u (fun x => { x with docked := none }))
            .nothing := by
  unfold undock
  rw [indexOfNumber?_number]
  dsimp only
  rw [hmay] <;> rfl

theorem handlerLock_eq : handlerLock i (number h) s =
    match s.handlers[h].lock with
    | some j => if j = i then refuse s .duplicate else refuse s .locked
    | none =>
      if s.handlers[h].cell.outOfWork then accept (s.updHandler h (fun x => { x with lock := some i })) .nothing
      else refuse s .busy := by
  unfold handlerLock
  rw [indexOfNumber?_number] <;> rfl

theorem handlerUnlock_locked {j : StationId} (hlock : s.handlers[h].lock = some j) :
    handlerUnlock i (number h) s =
      if j = i ∨ i = 0 then accept (s.updHandler h (fun x => { x with lock := none })) .nothing else refuse s .locked := by
  unfold handlerUnlock
  rw [indexOfNumber?_number]
  dsimp only
  rw [hlock]
  simp only [Bool.or_eq_true, decide_eq_true_eq]

end

/-- Settles O41: each request by the lock, the cell and the docking it finds. -/
theorem dockAndLock : Obligations.DockAndLock := by
  intro m h u s serves out
  have hout : s.taken.handlers[h].cell.outOfWork = true ↔ out := Cell.outOfWork_iff _
  have hbusy : ¬ out → s.taken.handlers[h].cell.outOfWork = false := fun hn => Bool.eq_false_iff.2 fun ho => hn (hout.1 ho)
  refine ⟨fun htakes hserves hc hu => ?_, fun htakes hserves => ?_, fun j hlock hj hrole => ?_, fun htakes => ?_,
    fun htakes j hlock => ?_⟩
  · obtain ⟨hmay, hfree⟩ := State.serves (s := s.taken) hserves
    have hblock : ∀ r, (if !s.taken.handlers[h].cell.outOfWork then refuse s.taken .busy
        else if s.taken.dockTaken h u && !s.taken.dockedTogether h u then refuse s.taken .inUse
        else if s.taken.dockedTogether h u then refuse s.taken .duplicate
        else accept ((s.taken.updHandler h (fun x => { x with docked := some u })).updTester u
          (fun x => { x with docked := some h })) .nothing) = r → dock m.sender (number h) (number u) s.taken = r := by
      intro r hr
      have hready : (s.taken.handlers[h].config.isSome && s.taken.testers[u].configured) = true :=
        Bool.and_eq_true_iff.2 ⟨Option.isSome_iff_ne_none.2 hc, hu⟩
      rw [dock_of_serves hmay, hfree, hready]
      exact hr
    refine ⟨fun ho hhandler htester => ?_, fun hn => ?_, fun ho hhandler htester => ?_⟩
    · refine State.request_answers htakes (hblock _ ?_)
      have hnot : s.taken.dockedTogether h u = false := by
        rw [State.dockedTogether, show s.taken.handlers[h].docked = none from hhandler]; rfl
      have hfreed : s.taken.dockTaken h u = false := by
        rw [State.dockTaken, show s.taken.handlers[h].docked = none from hhandler,
          show s.taken.testers[u].docked = none from htester]; rfl
      rw [hout.2 ho, hnot, hfreed]
      rfl
    · exact State.request_answers htakes (hblock _ (by rw [hbusy hn]; rfl))
    · refine State.request_answers htakes (hblock _ ?_)
      have htogether : s.taken.dockedTogether h u = true :=
        Bool.and_eq_true_iff.2 ⟨decide_eq_true hhandler, decide_eq_true htester⟩
      rw [hout.2 ho, htogether, Bool.not_true, Bool.and_false]
      rfl
  · obtain ⟨hmay, hfree⟩ := State.serves (s := s.taken) hserves
    have hblock := undock_of_serves hmay
    rw [hfree, if_neg Bool.false_ne_true] at hblock
    refine ⟨fun hhandler ho => ?_, fun hhandler hn => ?_, fun hhandler => ?_⟩
    · refine State.request_answers htakes (hblock.trans ?_)
      rw [show s.taken.handlers[h].docked = some u from hhandler]
      dsimp only
      rw [hout.2 ho]
      rfl
    · refine State.request_answers htakes (hblock.trans ?_)
      rw [show s.taken.handlers[h].docked = some u from hhandler]
      dsimp only
      rw [hbusy hn]
      rfl
    · refine State.request_answers htakes (hblock.trans ?_)
      rw [show s.taken.handlers[h].docked = none from hhandler] <;> rfl
  · obtain ⟨hmay, hlocked⟩ := State.locked_against (s := s.taken) hlock hj hrole
    refine ⟨fun htakes => State.request_answers htakes ?_, fun htakes => State.request_answers htakes ?_⟩
    · rw [dock_of_serves hmay, hlocked]; rfl
    · rw [undock_of_serves hmay, hlocked]; rfl
  · intro locks
    have hblock := handlerLock_eq (s := s.taken) (i := m.sender) (h := h)
    refine ⟨fun hlock ho => ?_, fun hlock hn => ?_, fun hlock => ?_, fun j hlock hj => ?_⟩
    all_goals
      refine State.request_answers htakes (hblock.trans ?_)
      rw [show s.taken.handlers[h].lock = _ from hlock]
      dsimp only
    · exact if_pos (hout.2 ho)
    · exact if_neg fun ho => hn (hout.1 ho)
    · exact if_pos rfl
    · exact if_neg hj
  · have hblock := handlerUnlock_locked (s := s.taken) (i := m.sender) hlock
    exact ⟨fun hor => State.request_answers htakes (hblock.trans (if_pos hor)),
      fun hj h0 => State.request_answers htakes (hblock.trans (if_neg fun hor => hor.elim hj h0))⟩

/-! ### Kit and temperature -/

theorem setpointOk_iff (t : Int) : setpointOk t = true ↔ -55 ≤ t ∧ t ≤ 175 := by
  rw [setpointOk, Bool.and_eq_true, decide_eq_true_eq, decide_eq_true_eq]

section
variable {s : State} {i : StationId} {h : HandlerId}

theorem State.installKit_eq {kit : Option Nat} (hkit : ∀ n, kit = some n → n ≤ 63) :
    s.installKit kit h =
      if s.handlers[h].cell.current.isSome then refuse s .busy
      else accept ((s.updHandler h (fun x => { x with kit := kit })).readyCheck h) (.kit kit s.handlers[h].requiredKit) := by
  refine if_neg fun hany => ?_
  obtain ⟨n, hn, hlt⟩ := (Option.any_eq_true _ _).1 hany
  exact absurd (hkit n hn) (Nat.not_le.2 (of_decide_eq_true hlt))

theorem State.reachTemp_of_target {t : Int} {goal : Target} (hlow : -55 ≤ t) (hhigh : t ≤ 175)
    (htarget : s.handlers[h].target = some goal) (hon : s.handlers[h].cell ≠ .offline) :
    s.reachTemp t h =
      if t ≠ goal.setpoint then refuse s .mismatch
      else if s.handlers[h].thermal = .ramping then ((s.updHandler h (Handler.reach goal)).readyCheck h).thermalAnswer h
      else s.thermalAnswer h := by
  unfold State.reachTemp
  rw [(setpointOk_iff t).2 ⟨hlow, hhigh⟩, if_neg (by decide), htarget]
  exact if_neg hon

/-- The check of the ready conditions moves a cell, and touches nothing else of its handler. -/
theorem State.readyCheck_handler (s : State) (h : HandlerId) :
    ∃ c, (s.readyCheck h).handlers[h] = { s.handlers[h] with cell := c } := by
  have hself : s.handlers[h] = { s.handlers[h] with cell := s.handlers[h].cell } := rfl
  have hmoved : ∀ c, (s.updHandler h (fun x => { x with cell := c })).handlers[h] = { s.handlers[h] with cell := c } :=
    fun c => by rw [State.updHandler_handlers, set_getElem_fin, if_pos rfl]
  unfold State.readyCheck
  split
  · split
    · obtain ⟨ss, e⟩ := State.markBound_frame (s.updHandler h (fun x => { x with cell := .ready _ })) h .readyToStart (unitBit h)
      exact ⟨_, by rw [e]; exact hmoved _⟩
    · exact ⟨_, hself⟩
  · split
    · exact ⟨_, hself⟩
    · exact ⟨_, hmoved _⟩
  · exact ⟨_, hself⟩

/-- The answer of a report of temperature, which the check of the ready conditions does not change. -/
theorem State.thermalAnswer_readyCheck (s : State) (h : HandlerId) :
    (s.readyCheck h).thermalAnswer h =
      accept (s.readyCheck h) (.thermal s.handlers[h].thermal s.handlers[h].soakLeft) := by
  obtain ⟨c, hc⟩ := s.readyCheck_handler h
  rw [State.thermalAnswer, hc]

theorem State.loseTemp_eq (hon : s.handlers[h].cell ≠ .offline) :
    (s.handlers[h].thermal = .soaking ∨ s.handlers[h].thermal = .atTemp →
      s.loseTemp h =
        accept ((s.updHandler h (fun x => { x with thermal := .ramping })).holdThermal h) (.thermalState .ramping)) ∧
    (s.handlers[h].thermal = .unknown ∨ s.handlers[h].thermal = .ramping →
      s.loseTemp h = accept s (.thermalState s.handlers[h].thermal)) := by
  unfold State.loseTemp
  rw [if_neg hon]
  cases s.handlers[h].thermal <;> simp

theorem State.holdThermal_eq (s : State) (h : HandlerId) :
    (∀ k, s.handlers[h].cell.current = some k → s.holdThermal h = (s.placeHold k .thermal none 0).1) ∧
    (s.handlers[h].cell.current = none → s.holdThermal h = s.readyCheck h) := by
  unfold State.holdThermal
  cases s.handlers[h].cell.current <;> simp

end

/-- Settles O42: each report by the handler it finds. -/
theorem kitAndTemperature : Obligations.KitAndTemperature := by
  intro m h s hb
  refine ⟨fun kit htakes hkit => ?_, fun t goal htakes hlow hhigh htarget hon => ?_, fun htakes hon => ?_⟩
  · have hblock := (State.onBound_eq (s := s.taken) (f := s.taken.installKit kit) hb).trans (State.installKit_eq hkit)
    refine ⟨fun hfree => ?_, fun hbusy => ?_⟩
    · exact State.request_answers htakes (hblock.trans (if_neg (by
        rw [show s.taken.handlers[h].cell.current = none from hfree]; decide)))
    · exact State.request_answers htakes (hblock.trans (if_pos (Option.isSome_iff_ne_none.2 hbusy)))
  · intro reached
    have hblock := (State.onBound_eq (s := s.taken) (f := s.taken.reachTemp t) hb).trans
      (State.reachTemp_of_target (s := s.taken) hlow hhigh htarget hon)
    have hreach : s.taken.handlers[h].thermal = .ramping → t = goal.setpoint →
        (s.taken.onBound m.sender (s.taken.reachTemp t)) =
          accept ((s.taken.updHandler h (Handler.reach goal)).readyCheck h)
            (.thermal (s.handlers[h].reach goal).thermal (s.handlers[h].reach goal).soakLeft) := by
      intro hramping ht
      rw [hblock, if_neg (not_not.2 ht), if_pos hramping, State.thermalAnswer_readyCheck, State.updHandler_handlers,
        set_getElem_fin, if_pos rfl]
      rfl
    refine ⟨fun ht => ?_, fun ht hnot => ?_, fun ht hramping hsoak => ?_, fun ht hramping hsoak => ?_⟩
    · exact State.request_answers htakes (hblock.trans (if_pos ht))
    · exact State.request_answers htakes (hblock.trans ((if_neg (not_not.2 ht)).trans (if_neg hnot)))
    · have hreached : Handler.reach goal = fun x => { x with setpoint := some goal.setpoint, thermal := .atTemp } :=
        funext fun x => if_pos hsoak
      refine (State.request_answers htakes (hreach hramping ht)).trans ?_
      rw [hreached]
      rfl
    · have hreached : Handler.reach goal =
          fun x => { x with setpoint := some goal.setpoint, thermal := .soaking, soakLeft := goal.soak } :=
        funext fun x => if_neg hsoak
      refine (State.request_answers htakes (hreach hramping ht)).trans ?_
      rw [hreached]
      rfl
  · intro ramping
    obtain ⟨hlost, hkept⟩ := State.loseTemp_eq (s := s.taken) hon
    have hblock := State.onBound_eq (s := s.taken) (f := s.taken.loseTemp) hb
    have hcell : ramping.handlers[h].cell = s.handlers[h].cell := by
      show (s.handlers.set h _)[h].cell = _
      rw [set_getElem_fin, if_pos rfl]
    obtain ⟨hheld, hfree⟩ := ramping.holdThermal_eq h
    rw [hcell] at hheld hfree
    refine ⟨fun hthermal => ⟨fun k hk => ?_, fun hno => ?_⟩, fun hthermal => ?_⟩
    · refine (State.request_answers htakes (hblock.trans (hlost hthermal))).trans ?_
      rw [← hheld k hk]
      rfl
    · refine (State.request_answers htakes (hblock.trans (hlost hthermal))).trans ?_
      rw [← hfree hno]
      rfl
    · exact State.request_answers htakes (hblock.trans (hkept hthermal))

end Sys2Proof.Machine
end

section
/-! SUPPORT. Testers: TESTER_CONFIG, and the loads by request. -/

namespace Sys2Proof.Machine

/-! ### TESTER_CONFIG -/

section
variable {s : State} {i : StationId} {u : TesterId}

/-- The sender may configure a tester, and no lock of another station stands against it (R89). -/
theorem State.configureTester_eq {action : TesterId → Reply}
    (hserves : (s.rolesOf i).hasAny [.supervisor, .engineering] = true ∧
        s.testers[u].docked.bind (fun h : HandlerId => s.handlers[h].lock) = none ∨
      s.testers[u].docked.bind (fun h : HandlerId => s.handlers[h].lock) = some i) :
    s.configureTester i (number u) action = action u := by
  have hmay : s.mayConfigure i u = true ∧ s.testerLocked i u = false := by
    rw [State.mayConfigure, State.testerLocked, Bool.or_eq_true]
    cases hd : s.testers[u].docked with
    | none =>
      rw [hd] at hserves
      exact ⟨.inl (hserves.resolve_right (by simp)).1, rfl⟩
    | some h =>
      rw [hd] at hserves
      simp only [Option.bind_some] at hserves
      refine ⟨hserves.imp And.left decide_eq_true, ?_⟩
      exact (State.serves (s := s) hserves).2
  unfold State.configureTester
  rw [indexOfNumber?_number]
  dsimp only
  rw [hmay.1, hmay.2]
  rfl

theorem Tester.loading_iff (x : Tester) : x.loading = true ↔ ∃ g, x.staged = some g ∧ g.state = .loading := by
  rw [Tester.loading, Option.any_eq_true]
  simp only [decide_eq_true_eq]

theorem State.testerSlots_updTester (s : State) (u : TesterId) (f : Tester → Tester) :
    (s.updTester u f).testerSlots u =
      accept (s.updTester u f)
        (.testerSlots (f s.testers[u]).configured (f s.testers[u]).active (f s.testers[u]).staged) := by
  rw [State.testerSlots, State.updTester_testers, set_getElem_fin, if_pos rfl]

end

/-- Settles O43: the three actions, and what stands against each. -/
theorem testerConfig : Obligations.TesterConfig := by
  intro m u s htakes lock hserves x done refused loading working
  have hblock : ∀ action : TesterId → Reply, s.taken.configureTester m.sender (number u) action = action u := fun action =>
    State.configureTester_eq (s := s.taken) hserves
  have hloading : s.taken.testers[u].loading = true ↔ loading := Tester.loading_iff _
  have hworking : s.taken.testers[u].docked.any (fun h => !s.taken.handlers[h].cell.outOfWork) = true ↔ working := by
    rw [Option.any_eq_true]
    refine exists_congr fun h => and_congr_right fun _ => ?_
    rw [Bool.not_eq_true', Bool.eq_false_iff, ne_eq, Cell.outOfWork_iff, not_or]
    rfl
  have hfree : s.taken.testers[u].docked = none → ¬ s.taken.testers[u].docked.isSome = true := fun h => by
    rw [h]
    decide
  refine ⟨?_, fun hdocked => ?_, fun hdocked hc => ?_, fun hdocked hc hl => ?_, fun hdocked hc hl => ?_, fun hc => ?_,
    fun hc hw => ?_, fun hc hw => ?_⟩
  · exact (State.request_answers htakes ((hblock _).trans (State.testerSlots_updTester _ _ _)))
  · exact State.request_answers htakes ((hblock _).trans (if_pos (Option.isSome_iff_ne_none.2 hdocked)))
  · refine State.request_answers htakes ((hblock _).trans ((if_neg (hfree hdocked)).trans (if_pos ?_)))
    rw [show s.taken.testers[u].configured = false from hc]; rfl
  · refine State.request_answers htakes ((hblock _).trans ((if_neg (hfree hdocked)).trans ((if_neg ?_).trans
      (if_pos (hloading.2 hl)))))
    rw [show s.taken.testers[u].configured = true from hc]; decide
  · refine State.request_answers htakes ((hblock _).trans ((if_neg (hfree hdocked)).trans ((if_neg ?_).trans
      ((if_neg fun h => hl (hloading.1 h)).trans (State.testerSlots_updTester _ _ _)))))
    rw [show s.taken.testers[u].configured = true from hc]; decide
  · refine State.request_answers htakes ((hblock _).trans (if_pos ?_))
    rw [show s.taken.testers[u].configured = false from hc]; rfl
  · refine State.request_answers htakes ((hblock _).trans ((if_neg ?_).trans (if_pos (hworking.2 hw))))
    rw [show s.taken.testers[u].configured = true from hc]; decide
  · refine State.request_answers htakes ((hblock _).trans ((if_neg ?_).trans ((if_neg fun h => hw (hworking.1 h)).trans
      (State.testerSlots_updTester _ _ _))))
    rw [show s.taken.testers[u].configured = true from hc]; decide

/-! ### STAGE_PROGRAM, PROGRAM_LOADED and STAGE_ABORT -/

section
variable {s : State} {i : StationId} {u : TesterId}

theorem State.reservationNeeds_iff (p : Program) (k : Slot) :
    s.reservationNeeds u p = some k ↔ ∃ h : HandlerId, s.testers[u].docked = some h ∧ s.reservedOn h = some (k, p) := by
  unfold State.reservationNeeds
  cases s.testers[u].docked with
  | none => simp
  | some h =>
    simp only [Option.some.injEq, exists_eq_left']
    cases s.reservedOn h with
    | none => simp
    | some kq =>
      obtain ⟨k', q⟩ := kq
      simp only [Option.ite_none_right_eq_some, Option.some.injEq, Prod.mk.injEq]
      tauto

theorem stageProgram_eq {p e : Nat} {x : LibraryEntry} (hok : programOk p e = true) (hc : s.testers[u].configured = true)
    (hx : s.revision? ⟨p, e⟩ = some x) (hreleased : x.withdrawal = none)
    (hfree : ∀ h : HandlerId, s.testers[u].docked = some h → s.handlers[h].cell.reserved = none)
    (hidle : ∀ g, s.testers[u].staged = some g → g.state ≠ .loading) (hhand : s.testers[u].atHand ⟨p, e⟩ = false) :
    stageProgram (number u) p e s = accept (s.startLoad u ⟨p, e⟩ 1) (.deadline (2 * x.estimate)) := by
  have hreserved : ¬ s.testers[u].docked.any (fun h => s.handlers[h].cell.reserved.isSome) = true := by
    rw [Option.any_eq_true]
    rintro ⟨h, hd, hr⟩
    rw [hfree h hd] at hr
    cases hr
  have hloading : ¬ s.testers[u].loading = true := by
    rw [Tester.loading_iff]
    rintro ⟨g, hg, hl⟩
    exact hidle g hg hl
  unfold stageProgram
  rw [indexOfNumber?_number]
  dsimp only
  rw [hok, hc, hx, if_neg (by decide), if_neg (by decide)]
  refine (if_neg (by rw [hreleased]; decide)).trans ((if_neg hreserved).trans ((if_neg hloading).trans (if_neg ?_)))
  rw [hhand]
  decide

/-- The two forms of a report name the tester given, or the one docked to the sender's handler (R99, R101). -/
theorem State.formTester_eq {rs : List Role} {named : Option Nat}
    (hform : named = some (number u) ∧ (s.rolesOf i).hasAny rs = true ∨
      named = none ∧ (s.rolesOf i).has .cell = true ∧
        ∃ h : HandlerId, s.stations[i].bound = some h ∧ s.handlers[h].docked = some u) :
    s.formTester i rs named = .ok u := by
  unfold State.formTester
  rcases hform with ⟨rfl, hrole⟩ | ⟨rfl, hcell, h, hb, hd⟩
  · dsimp only
    rw [indexOfNumber?_number]
    exact if_pos hrole
  · dsimp only
    rw [hb]
    dsimp only
    rw [if_pos hcell, hd]

theorem programLoaded_eq {named : Option Nat} {p e : Nat} {sig : Signature} (hok : programOk p e = true)
    (hform : s.formTester i [.engineering] named = .ok u) :
    programLoaded i named p e sig s = s.reportLoad u ⟨p, e⟩ sig := by
  unfold programLoaded
  rw [if_neg (by rw [hok]; decide), hform]

theorem stageAbort_eq {named : Option Nat} (hform : s.formTester i [.engineering, .floor] named = .ok u) :
    stageAbort i named s = s.abortLoad u := by
  unfold stageAbort
  rw [hform]

variable {g : Staged}

theorem State.reportLoad_staged (hg : s.testers[u].staged = some g) (p : Program) (sig : Signature) :
    s.reportLoad u p sig =
      if g.state ≠ .loading then refuse s .tooLate
      else if g.program ≠ p then refuse s .mismatch
      else accept ((s.updTester u (fun x => { x with staged := some (g.report sig) })).loadEnded u)
        (.stagedState (g.report sig).state.name) := by
  unfold State.reportLoad
  rw [hg]

theorem State.abortLoad_staged (hg : s.testers[u].staged = some g) :
    s.abortLoad u =
      if g.state ≠ .loading then refuse s .wrongState
      else
        match s.reservationNeeds u g.program with
        | some k => accept (((s.updTester u (fun x => { x with staged := none })).cancelReservation k false).loadEnded u)
            (.aborted true)
        | none => accept ((s.updTester u (fun x => { x with staged := none })).loadEnded u) (.aborted false) := by
  unfold State.abortLoad
  rw [hg] <;> rfl

/-- A load whose end left no fault. -/
theorem State.loadEnded_of_not_faulted (h : ∀ x, s.testers[u].staged = some x → x.state = .loaded) :
    s.loadEnded u = s.afterLoad u := by
  refine if_neg ?_
  rw [Tester.faulted, Option.any_eq_true]
  rintro ⟨x, hx, hfault⟩
  rw [h x hx] at hfault
  exact Bool.noConfusion hfault

end

/-- Settles O44: each request by the staged slot it finds. -/
theorem loads : Obligations.Loads := by
  intro m u s
  refine ⟨fun p k => State.reservationNeeds_iff p k,
    fun p e x htakes hok hc hx hreleased hfree hidle hhand => State.request_answers htakes
      (stageProgram_eq (s := s.taken) hok hc hx hreleased hfree hidle hhand),
    fun named p e sig g htakes hok hform hg => ?_, fun named g htakes hform hg => ?_⟩
  · intro reported
    have hform' := State.formTester_eq (s := s.taken) (rs := [.engineering]) (by rw [RoleSet.hasAny_singleton]; exact hform)
    have hblock := (programLoaded_eq (sig := sig) hok hform').trans (State.reportLoad_staged (s := s.taken) hg ⟨p, e⟩ sig)
    have hslot : ∀ x, (reported x).testers[u].staged = some { g with state := x, reported := some sig } := fun x => by
      show (s.testers.set u _)[u].staged = _
      rw [set_getElem_fin, if_pos rfl]
    refine ⟨fun hl hp hsig => ?_, fun hl hp hsig => ?_, fun hl hp => ?_, fun hl => ?_⟩
    · refine State.request_answers htakes (hblock.trans ((if_neg (not_not.2 hl)).trans ((if_neg (not_not.2 hp)).trans ?_)))
      have hreport : g.report sig = { g with state := .loaded, reported := some sig } := by rw [Staged.report, if_pos hsig]
      rw [hreport, ← State.loadEnded_of_not_faulted (s := reported .loaded)]
      · rfl
      · intro x hx
        rw [← Option.some.inj ((hslot _).symm.trans hx)]
    · refine State.request_answers htakes (hblock.trans ((if_neg (not_not.2 hl)).trans ((if_neg (not_not.2 hp)).trans ?_)))
      have hreport : g.report sig = { g with state := .fault .signature, reported := some sig } := by
        rw [Staged.report, if_neg hsig]
      rw [hreport, ← State.loadEnded_fault (s := reported (.fault .signature)) (hslot _) rfl]
      rfl
    · exact State.request_answers htakes (hblock.trans ((if_neg (not_not.2 hl)).trans (if_pos hp)))
    · exact State.request_answers htakes (hblock.trans (if_pos hl))
  · intro emptied
    have hblock := (stageAbort_eq (State.formTester_eq (s := s.taken) hform)).trans (State.abortLoad_staged (s := s.taken) hg)
    have hempty : emptied.testers[u].staged = none := by
      show (s.testers.set u _)[u].staged = _
      rw [set_getElem_fin, if_pos rfl]
    refine ⟨fun hl hneeds => ?_, fun k hl hneeds => ?_, fun hl => ?_⟩
    · refine State.request_answers htakes (hblock.trans ((if_neg (not_not.2 hl)).trans ?_))
      rw [show s.taken.reservationNeeds u g.program = none from hneeds, ← State.loadEnded_of_not_faulted (s := emptied)]
      · rfl
      · intro x hx
        rw [hempty] at hx
        cases hx
    · refine State.request_answers htakes (hblock.trans ((if_neg (not_not.2 hl)).trans ?_))
      rw [show s.taken.reservationNeeds u g.program = some k from hneeds,
        ← State.loadEnded_of_not_faulted (s := emptied.cancelReservation k false)]
      · rfl
      · intro x hx
        obtain ⟨ls, hs, ds, ss, e⟩ := emptied.cancelReservation_frame k false
        rw [e] at hx
        rw [hempty] at hx
        cases hx
    · exact State.request_answers htakes (hblock.trans (if_pos hl))

end Sys2Proof.Machine
end

section
/-! SUPPORT. Shipment: endorsements, their withdrawal, and collection. -/

namespace Sys2Proof.Machine

section
variable {s : State} {i : StationId} {lot : Text} {l : Lot} {r : Role}

/-! ### LOT_ENDORSE -/

theorem endorsingRole?_code (h : r = .quality ∨ r = .dock ∨ r = .engineering) : endorsingRole? r.code = some r := by
  rcases h with rfl | rfl | rfl <;> rfl

theorem lotEndorse_of_named (hid : lotIdOk lot = true) (hl : s.lotNamed? lot = some l)
    (hr : r = .quality ∨ r = .dock ∨ r = .engineering) : lotEndorse i lot r.code s = s.endorseOn i l r := by
  unfold lotEndorse
  rw [hid, endorsingRole?_code hr]
  dsimp only
  rw [hl]

theorem Lot.endorsed_iff (l : Lot) (i : StationId) (r : Role) :
    (∀ e ∈ l.endorsements, e.station ≠ i ∧ e.role ≠ r) ↔ l.endorsedBy i = false ∧ l.endorsedIn r = false := by
  rw [Lot.endorsedBy, Lot.endorsedIn, List.any_eq_false, List.any_eq_false, ← forall₂_and]
  simp only [decide_eq_true_eq]

theorem Lot.missingRoles_eq (l : Lot) :
    l.missingRoles = (if l.deviationUsed || l.waiver then [Role.quality, .dock, .engineering] else [.quality, .dock]).filter
      (fun x => l.endorsements.all (fun e => e.role ≠ x)) := by
  unfold Lot.missingRoles Lot.requiredRoles Lot.needsEngineering
  congr 1
  funext x
  rw [List.not_any_eq_all_not]
  congr 1
  funext e
  rw [decide_not]

theorem State.codeOf_active {p : ProductIx} {route : Route} (h : s.products[p].active = some route) : s.codeOf p = route.code := by
  unfold State.codeOf
  rw [h]

theorem State.releaseRecord_active {route : Route} (h : s.products[l.product].active = some route) :
    s.releaseRecord l =
      { slot := l.slot, lot := l.id, product := route.code, quantity := l.cur.good, time := s.floorTime
        endorsers := l.endorsements.map (fun e : Endorsement => (e.station, e.role)) } := by
  rw [State.releaseRecord, State.codeOf_active h]

/-- A release, in terms of the record put (R157). -/
theorem State.SlotsInOrder.release_eq (hs : s.SlotsInOrder) (hl : s.lot? l.slot = some l) :
    s.release l =
      { s.putLot { l with state := .released } with releaseQueue := s.releaseQueue ++ [s.releaseRecord l] }.markRoles
        [.dock, .floor] .lotReleased 0 := by
  have hput := hs.setLotState_eq hl .released
  unfold State.release
  rw [← hput]
  rfl

/-- A lot that joins the release-waiting list, in terms of the record put (R158). -/
theorem State.SlotsInOrder.joinWaiting_eq (hs : s.SlotsInOrder) (hl : s.lot? l.slot = some l) :
    s.joinWaiting l.slot =
      { s.putLot { l with state := .complete (some (min 4294967295 (s.waitingCounter + 1))) } with
          waitingCounter := min 4294967295 (s.waitingCounter + 1) } := by
  unfold State.joinWaiting
  rw [hs.setLotState_eq hl, nextStamp_eq]

/-- LOT_ENDORSE taken, by the roles it leaves missing and the room in the release queue (R153). -/
theorem State.SlotsInOrder.endorse_eq (hs : s.SlotsInOrder) (hl : s.lot? l.slot = some l) (e : Endorsement) :
    s.endorse l e =
      if (l.endorse e).missingRoles ≠ [] then
        accept (s.putLot (l.endorse e)) (.endorsed .complete (l.endorse e).missingRoles none)
      else if s.releaseQueue.length < 32 then
        accept ({ s.putLot { l.endorse e with state := .released } with
            releaseQueue := s.releaseQueue ++ [s.releaseRecord (l.endorse e)] }.markRoles [.dock, .floor] .lotReleased 0)
          (.endorsed .released [] (some s.releaseQueue.length))
      else
        (fun t : State => accept t (.endorsed .complete [] (some (t.waitingPlace l.slot))))
          { s.putLot { l.endorse e with state := .complete (some (min 4294967295 (s.waitingCounter + 1))) } with
            waitingCounter := min 4294967295 (s.waitingCounter + 1) } := by
  have hput := hs.lot?_putLot_of hl (x := l.endorse e) rfl
  have hin := hs.putLot (l.endorse e)
  unfold State.endorse
  dsimp only
  rw [hs.updLot_eq hl (Lot.endorse e) rfl]
  by_cases hmissing : (l.endorse e).missingRoles = []
  · rw [if_pos (List.isEmpty_iff.2 hmissing), if_neg (not_not.2 hmissing)]
    unfold State.lastEndorsement
    by_cases hroom : s.releaseQueue.length < 32
    · refine (if_pos hroom).trans ((?_ : accept _ _ = accept _ _).trans (if_pos hroom).symm)
      rw [hin.release_eq (l := l.endorse e) hput, State.putLot_putLot s (l.endorse e) { l.endorse e with state := .released } rfl]
      rfl
    · refine (if_neg hroom).trans (Eq.trans ?_ (if_neg hroom).symm)
      rw [hin.joinWaiting_eq (l := l.endorse e) hput,
        State.putLot_putLot s (l.endorse e) { l.endorse e with state := .complete (some _) } rfl]
      rfl
  · rw [if_neg (fun h => hmissing (List.isEmpty_iff.1 h)), if_pos hmissing]

end

/-- Settles O50: the checks in their order, and the entry with what it completes. -/
theorem endorse_endorses : Obligations.Endorse := by
  intro m lot l r route s htakes hs hid hl hr hroute does holds engineered fresh entries missing takes
  have hin : s.taken.SlotsInOrder := hs
  have hlot : s.taken.lot? l.slot = some l := hs.lot?_of_named hl
  have hblock := lotEndorse_of_named (s := s.taken) (i := m.sender) hid hl hr
  have hfresh : fresh ↔ l.endorsedBy m.sender = false ∧ l.endorsedIn r = false := l.endorsed_iff m.sender r
  have hmissing : (l.endorse ⟨m.sender, r, s.floorTime⟩).missingRoles = missing := Lot.missingRoles_eq _
  have hneeds : (r = .engineering && !l.needsEngineering) = true ↔ r = .engineering ∧ engineered = false := by
    rw [Bool.and_eq_true, decide_eq_true_eq, Bool.not_eq_true']
    rfl
  have hrole : holds → (!(s.taken.rolesOf m.sender).has r) = false := fun h => by
    rw [show (s.taken.rolesOf m.sender).has r = true from h]; rfl
  have hlive : l.state.name = .complete → l.state ≠ .held := fun h e => by rw [e] at h; cases h
  have htaken : takes → lotEndorse m.sender lot r.code s.taken = s.taken.endorse l ⟨m.sender, r, s.floorTime⟩ := by
    rintro ⟨hholds, hstate, heng, hnew⟩
    obtain ⟨hby, hinrole⟩ := hfresh.1 hnew
    have hnotNeeds : ¬ (r = .engineering && !l.needsEngineering) = true := fun h => by
      obtain ⟨hreng, hno⟩ := hneeds.1 h
      rw [heng hreng] at hno
      cases hno
    rw [hblock, State.endorseOn, hrole hholds, if_neg Bool.false_ne_true, if_neg (hlive hstate), if_neg (not_not.2 hstate),
      if_neg hnotNeeds, hby, hinrole, if_neg Bool.false_ne_true, if_neg Bool.false_ne_true]
    rfl
  have hendorse := hin.endorse_eq hlot ⟨m.sender, r, s.floorTime⟩
  rw [hmissing] at hendorse
  refine ⟨fun ht hm => ?_, fun ht hm hroom => ?_, fun ht hm hfull => ?_, fun hno => ?_, fun hh hheld => ?_,
    fun hh hnh hnc => ?_, fun hh hc hreng hno => ?_, fun hh hc heng hno => ?_⟩
  · exact State.request_answers htakes ((htaken ht).trans (hendorse.trans (if_pos hm)))
  · refine (State.request_answers htakes ((htaken ht).trans (hendorse.trans ((if_neg (not_not.2 hm)).trans
      (if_pos hroom))))).trans ?_
    rw [State.releaseRecord_active (s := s.taken) (l := l.endorse ⟨m.sender, r, s.floorTime⟩) hroute]
    rfl
  · intro stamp t
    exact State.request_answers htakes ((htaken ht).trans (hendorse.trans ((if_neg (not_not.2 hm)).trans
      (if_neg (Nat.not_lt.2 hfull)))))
  all_goals refine State.request_answers htakes (hblock.trans ?_)
  · exact if_pos (by rw [Bool.not_eq_true']; exact Bool.eq_false_iff.2 hno)
  all_goals refine (if_neg (by rw [hrole hh]; decide)).trans ?_
  · exact if_pos hheld
  · exact (if_neg hnh).trans (if_pos hnc)
  all_goals refine (if_neg (hlive hc)).trans ((if_neg (not_not.2 hc)).trans ?_)
  · exact if_pos (hneeds.2 ⟨hreng, hno⟩)
  · refine (if_neg fun h => ?_).trans ?_
    · obtain ⟨hreng, hno'⟩ := hneeds.1 h
      rw [heng hreng] at hno'
      cases hno'
    · rw [hfresh, not_and_or, Bool.not_eq_false, Bool.not_eq_false] at hno
      by_cases hby : l.endorsedBy m.sender = true
      · exact if_pos hby
      · exact (if_neg hby).trans (if_pos (hno.resolve_left hby))

/-! ### ENDORSE_WITHDRAW and SHIP_COLLECT -/

section
variable {s : State} {i : StationId} {lot : Text} {l : Lot}

theorem endorseWithdraw_of_named (hid : lotIdOk lot = true) (hl : s.lotNamed? lot = some l) :
    endorseWithdraw i lot s =
      if l.state.name ≠ .complete then refuse s .wrongState
      else if !l.endorsedBy i then refuse s .noSuchEntry
      else accept (s.updLot l.slot (Lot.withdraw i)) (.withdrawn (l.withdraw i).endorsements l.state.waiting?.isSome) := by
  unfold endorseWithdraw
  rw [if_neg (by rw [hid]; decide), hl]

theorem Lot.endorsedBy_iff (l : Lot) (i : StationId) : l.endorsedBy i = true ↔ ∃ e ∈ l.endorsements, e.station = i := by
  rw [Lot.endorsedBy, List.any_eq_true]
  simp only [decide_eq_true_eq]

theorem shipCollect_of_named (hid : lotIdOk lot = true) (hl : s.lotNamed? lot = some l) :
    (l.state ≠ .released → shipCollect lot s = refuse s .notReleased) ∧
    (∀ r, l.state = .released → s.recordOf? l.slot = some r →
      shipCollect lot s = accept (s.collect l.slot) (.shipped r)) := by
  unfold shipCollect
  rw [if_neg (by rw [hid]; decide), hl]
  refine ⟨fun hn => if_pos hn, fun r hreleased hr => (if_neg (not_not.2 hreleased)).trans ?_⟩
  rw [hr]

/-- A released lot that leaves the table takes no lot off the release-waiting list. -/
theorem State.SlotsInOrder.waitingList_drop (hs : s.SlotsInOrder) (hl : s.lot? l.slot = some l) (hreleased : l.state = .released) :
    ((s.dropRecord l.slot).dropLot l.slot).waitingList = s.waitingList := by
  unfold State.waitingList
  congr 1
  refine (List.filter_filter ..).trans (List.filter_congr fun x hx => ?_)
  by_cases hslot : x.slot = l.slot
  · rw [hs.eq_of_slot hx (State.lot?_mem hl) hslot, hreleased]
    rfl
  · rw [decide_eq_true hslot, Bool.and_true]

theorem State.SlotsInOrder.dropLot (hs : s.SlotsInOrder) (k : Slot) : (s.dropLot k).SlotsInOrder := List.Pairwise.filter _ hs

theorem State.offerPlace_nil (h : s.waitingList = []) : s.offerPlace = s := by
  unfold State.offerPlace
  rw [h]

theorem State.offerPlace_cons {ws : List Lot} (h : s.waitingList = l :: ws) : s.offerPlace = s.release l := by
  unfold State.offerPlace
  rw [h]

end

/-- Settles O51: the entry taken back, and the record and the lot that leave, with the place offered on. -/
theorem withdrawAndCollect : Obligations.WithdrawAndCollect := by
  refine ⟨fun m lot l s htakes hs hid hl => ?_, fun m lot l s htakes hs hid hl => ?_⟩
  · intro left
    have hin : s.taken.SlotsInOrder := hs
    have hlot : s.taken.lot? l.slot = some l := hs.lot?_of_named hl
    have hblock := endorseWithdraw_of_named (s := s.taken) (i := m.sender) hid hl
    refine ⟨fun w hstate hby => ?_, fun w hstate hno => ?_, fun hstate => ?_⟩
    · refine State.request_answers htakes (hblock.trans ((if_neg (not_not.2 (by rw [hstate]; rfl))).trans ((if_neg ?_).trans ?_)))
      · rw [(l.endorsedBy_iff m.sender).2 hby]; decide
      · rw [hin.updLot_eq hlot (Lot.withdraw m.sender) rfl, hstate]
        rfl
    · refine State.request_answers htakes (hblock.trans ((if_neg (not_not.2 (by rw [hstate]; rfl))).trans (if_pos ?_)))
      rw [Bool.not_eq_true', Bool.eq_false_iff, ne_eq, Lot.endorsedBy_iff]
      exact fun ⟨e, he, hi⟩ => hno e he hi
    · exact State.request_answers htakes (hblock.trans (if_pos hstate))
  · obtain ⟨hno, hcollect⟩ := shipCollect_of_named (s := s.taken) hid hl
    refine ⟨fun hn => State.request_answers htakes (hno hn), fun r hreleased hr => ?_⟩
    intro t
    have hin : t.SlotsInOrder := hs.dropLot l.slot
    have hblock := hcollect r hreleased hr
    have hwaiting : t.waitingList = s.waitingList := hs.waitingList_drop (hs.lot?_of_named hl) hreleased
    refine ⟨fun hnil => ?_, fun w ws route hcons hroute => ?_⟩
    · refine (State.request_answers htakes hblock).trans ?_
      rw [show s.taken.collect l.slot = t from State.offerPlace_nil (hwaiting.trans hnil)]
    · refine (State.request_answers htakes hblock).trans ?_
      have hfirst := hwaiting.trans hcons
      have hw : t.lot? w.slot = some w := State.lot?_of_mem hin (State.mem_waitingList (by rw [hfirst]; exact List.mem_cons_self)).1
      rw [show s.taken.collect l.slot = t.release w from State.offerPlace_cons hfirst, hin.release_eq hw,
        State.releaseRecord_active (s := t) hroute]
      rfl

end Sys2Proof.Machine
end

section
/-! SUPPORT. The queries: each answers the records as they stand. -/

namespace Sys2Proof.Machine

/-! ### LOT_QUERY, LOT_SCAN, QUEUE_QUERY and RELEASE_QUERY -/

section
variable {s : State} {lot : Text} {l : Lot}

theorem lotQuery_of_named {part : LotPart} (hid : lotIdOk lot = true) (hl : s.lotNamed? lot = some l) (hp : lotPartOk part = true) :
    lotQuery lot part s = lotPartAnswer s l part := by
  unfold lotQuery
  rw [if_neg (by rw [hid, hp]; decide), hl]

theorem lotPartAnswer_step {n k : Nat} {r : StepRecord} (hr : (l.past ++ [l.cur])[n - 1]? = some r) :
    lotPartAnswer s l (.step n 0) = accept s (r.answer l.state.name) ∧
    (∀ e, 1 ≤ k → r.runs[k - 1]? = some e → lotPartAnswer s l (.step n k) = accept s (.lotRun l.state.name e)) := by
  have hstep : l.steps[n - 1]? = some r := hr
  constructor
  · rw [lotPartAnswer, hstep] <;> rfl
  · intro e hk he
    rw [lotPartAnswer, hstep]
    dsimp only
    rw [if_neg (by omega), he]

theorem State.nextSlot?_some (hs : s.SlotsInOrder) {after : Option Nat} (hl : l ∈ s.lots)
    (hafter : ∀ n, after = some n → n < l.slot.val)
    (hfirst : ∀ x ∈ s.lots, (∀ n, after = some n → n < x.slot.val) → l.slot ≤ x.slot) : s.nextSlot? after = some l.slot := by
  refine lowestIndex_eq_some ?_ fun j hj => ?_
  · rw [Bool.and_eq_true, Option.all_eq_true, State.lot?_of_mem hs hl]
    exact ⟨fun n hn => decide_eq_true (hafter n hn), rfl⟩
  · rw [Bool.eq_false_iff]
    intro hboth
    obtain ⟨hj', hsome⟩ := Bool.and_eq_true_iff.1 hboth
    obtain ⟨x, hx⟩ := Option.isSome_iff_exists.1 hsome
    have hslot := State.lot?_slot hx
    rw [Option.all_eq_true] at hj'
    exact absurd (hfirst x (State.lot?_mem hx) fun n hn => hslot ▸ of_decide_eq_true (hj' n hn)) (not_le.2 (hslot ▸ hj))

theorem State.nextSlot?_none {after : Option Nat} (hno : ∀ x ∈ s.lots, ∃ n, after = some n ∧ x.slot.val ≤ n) :
    s.nextSlot? after = none := by
  refine lowestIndex_none.2 fun k => Bool.eq_false_iff.2 fun hboth => ?_
  obtain ⟨hk, hsome⟩ := Bool.and_eq_true_iff.1 hboth
  obtain ⟨x, hx⟩ := Option.isSome_iff_exists.1 hsome
  obtain ⟨n, hn, hle⟩ := hno x (State.lot?_mem hx)
  rw [Option.all_eq_true] at hk
  have hlt := of_decide_eq_true (hk n hn)
  rw [State.lot?_slot hx] at hle
  omega

theorem lotScan_of_ok {after : Option Nat} (hok : ∀ n, after = some n → n ≤ 255) :
    lotScan after s =
      match (s.nextSlot? after).bind s.lot? with
      | some l => accept s (.scanned l.slot l.id l.state.name l.stepNumber)
      | none => refuse s .empty := by
  refine if_neg fun hany => ?_
  obtain ⟨n, hn, hlt⟩ := (Option.any_eq_true _ _).1 hany
  exact absurd (hok n hn) (Nat.not_le.2 (of_decide_eq_true hlt))

theorem State.overdue_eq (s : State) (l : Lot) :
    s.overdue l = decide (s.settings.ageCeiling ≠ 0 ∧ s.settings.ageCeiling * 60 ≤ l.age) := by
  rw [Bool.decide_and]
  rfl

/-- The record of a slot and its place, where no earlier record is of the slot. -/
theorem State.recordAnswer_eq {k : Slot} {r : ReleaseRecord} {n : Nat} (hr : s.releaseQueue[n]? = some r) (hslot : r.slot = k)
    (hfirst : ∀ j x, j < n → s.releaseQueue[j]? = some x → x.slot ≠ k) (absent : Result) :
    s.recordAnswer k absent = accept s (.releaseRecord r n) := by
  obtain ⟨hlt, hn⟩ := List.getElem?_eq_some_iff.1 hr
  have hat : decide (s.releaseQueue[n].slot = k) = true := by rw [hn]; exact decide_eq_true hslot
  have hbefore : ∀ j (hj : j < n), (!decide (s.releaseQueue[j].slot = k)) = true := fun j hj => by
    rw [Bool.not_eq_true', decide_eq_false_iff_not]
    exact hfirst j _ hj (List.getElem?_eq_getElem (hj.trans hlt))
  have hrecord : s.recordOf? k = some r := List.find?_eq_some_iff_getElem.2 ⟨decide_eq_true hslot, n, hlt, hn, hbefore⟩
  have hposition : s.recordPosition? k = some n := by
    refine List.findIdx?_eq_some_iff_getElem.2 ⟨hlt, hat, fun j hj h => ?_⟩
    have := hbefore j hj
    rw [h] at this
    cases this
  unfold State.recordAnswer
  rw [hrecord, hposition]

end

/-- Settles O52: each part of a record, the lowest slot, and the lists from a position on. -/
theorem lotQueries : Obligations.LotQueries := by
  intro m s
  refine ⟨fun lot l htakes hid hl => ?_, fun after htakes hs hok => ?_, fun c start htakes => ?_, fun htakes => ?_⟩
  · intro does
    have hpart : ∀ part, lotPartOk part = true → lotQuery lot part s.taken = lotPartAnswer s.taken l part := fun part hp =>
      lotQuery_of_named (s := s.taken) hid hl hp
    have hstep : ∀ n k, 1 ≤ n → n ≤ 4 → k ≤ 4 → lotPartOk (.step n k) = true := fun n k h1 h4 hk =>
      Bool.and_eq_true_iff.2 ⟨within_iff.2 ⟨h1, h4⟩, decide_eq_true hk⟩
    refine ⟨State.request_answers htakes (hpart .header rfl), fun n r h1 h4 hr => ⟨?_, fun k e hk1 hk4 he => ?_⟩, fun n hn => ?_,
      State.request_answers htakes (hpart .endorsements rfl)⟩
    · exact State.request_answers htakes ((hpart _ (hstep n 0 h1 h4 (by decide))).trans (lotPartAnswer_step (k := 0) hr).1)
    · exact State.request_answers htakes ((hpart _ (hstep n k h1 h4 hk4)).trans ((lotPartAnswer_step hr).2 e hk1 he))
    · exact State.request_answers htakes (hpart (.holds n) (decide_eq_true hn))
  · have hblock := lotScan_of_ok (s := s.taken) hok
    refine ⟨fun l hl hafter hfirst => ?_, fun hno => ?_⟩
    · refine State.request_answers htakes (hblock.trans ?_)
      rw [State.nextSlot?_some (s := s.taken) hs hl hafter hfirst, Option.bind_some,
        show s.taken.lot? l.slot = some l from State.lot?_of_mem hs hl] <;> rfl
    · refine State.request_answers htakes (hblock.trans ?_)
      rw [State.nextSlot?_none (s := s.taken) hno] <;> rfl
  · have hrow : s.taken.queueRow = fun l => (l.slot, l.priority, l.age / 60,
        decide (s.settings.ageCeiling ≠ 0 ∧ s.settings.ageCeiling * 60 ≤ l.age)) := funext fun l => by
      rw [State.queueRow, State.overdue_eq]
      rfl
    refine ⟨fun hlt => State.request_answers htakes ((if_neg (Nat.not_le.2 hlt)).trans ?_),
      fun hle => State.request_answers htakes (if_pos hle)⟩
    rw [hrow]
    rfl
  · intro does records waiting
    refine ⟨fun n hn => State.request_answers htakes (if_neg (Nat.not_le.2 hn)),
      fun n hn => State.request_answers htakes (if_pos hn),
      fun n hn => State.request_answers htakes (if_neg (Nat.not_le.2 hn)),
      fun n hn => State.request_answers htakes (if_pos hn), fun n r hn hr => State.request_answers htakes ?_,
      fun lot l n r hid hl hreleased hr hslot hfirst => State.request_answers htakes ?_⟩
    · refine (if_neg (Nat.not_lt.2 hn)).trans ?_
      rw [show s.taken.releaseQueue[n]? = some r from hr] <;> rfl
    · refine (if_neg (by rw [hid]; decide)).trans ?_
      rw [show s.taken.lotNamed? lot = some l from hl]
      exact (if_neg (not_not.2 hreleased)).trans (State.recordAnswer_eq (s := s.taken) hr hslot hfirst _)

/-! ### PRODUCT_QUERY and PROGRAM_QUERY -/

section
variable {s : State}

theorem productQuery_header (i : ProductIx) : productQuery (.index i.val) .header s = accept s (s.productHeader i) := by
  have hnamed : s.namedForQuery (.index i.val) = .ok i := by
    unfold State.namedForQuery
    dsimp only
    rw [index?_val]
  unfold productQuery
  rw [hnamed]
  rfl

theorem productQuery_step {i : ProductIx} {n : Nat} {r : Route} {st : RouteStep} (h1 : 1 ≤ n) (h4 : n ≤ 4)
    (hr : s.products[i].active = some r) (hst : r.steps[n - 1]? = some st) :
    productQuery (.index i.val) (.step n) s = accept s (.productStep st (classOf st.setpoint)) := by
  have hnamed : s.namedForQuery (.index i.val) = .ok i := by
    unfold State.namedForQuery
    dsimp only
    rw [index?_val]
  unfold productQuery
  rw [if_neg (by rw [show productPartOk (.step n) = true from within_iff.2 ⟨h1, h4⟩]; decide), hnamed]
  dsimp only
  rw [hr, Option.bind_some, hst]

theorem State.libraryAnswer_eq {i : LibIx} {e : LibraryEntry} (he : s.library[i] = some e) (absent : Result) :
    s.libraryAnswer i absent = accept s (.program i e (s.activeHolders e.program) (s.stagedHolders e.program)) := by
  unfold State.libraryAnswer
  rw [he]

theorem State.libraryScan_some {after : Option Nat} {i : LibIx} {e : LibraryEntry} (hafter : ∀ n, after = some n → n < i.val)
    (he : s.library[i] = some e) (hlow : ∀ j : LibIx, (∀ n, after = some n → n < j.val) → j < i → s.library[j] = none) :
    s.libraryScan after = s.libraryAnswer i .empty := by
  have hnext : s.nextLibrary? after = some i := by
    refine lowestIndex_eq_some ?_ fun j hj => Bool.eq_false_iff.2 fun hboth => ?_
    · rw [Bool.and_eq_true, Option.all_eq_true, he]
      exact ⟨fun n hn => decide_eq_true (hafter n hn), rfl⟩
    · obtain ⟨hj', hsome⟩ := Bool.and_eq_true_iff.1 hboth
      rw [Option.all_eq_true] at hj'
      rw [hlow j (fun n hn => of_decide_eq_true (hj' n hn)) hj] at hsome
      cases hsome
  unfold State.libraryScan
  rw [hnext]

theorem State.libraryScan_none {after : Option Nat}
    (hno : ∀ j : LibIx, (∀ n, after = some n → n < j.val) → s.library[j] = none) : s.libraryScan after = refuse s .empty := by
  have hnext : s.nextLibrary? after = none := by
    refine lowestIndex_none.2 fun j => Bool.eq_false_iff.2 fun hboth => ?_
    obtain ⟨hj, hsome⟩ := Bool.and_eq_true_iff.1 hboth
    rw [Option.all_eq_true] at hj
    rw [hno j (fun n hn => of_decide_eq_true (hj n hn))] at hsome
    cases hsome
  unfold State.libraryScan
  rw [hnext]

theorem programQuery_revision {p n : Nat} {i : LibIx} (hok : programOk p n = true) (hi : s.libraryIndex? ⟨p, n⟩ = some i) :
    programQuery (.revision p n) s = s.libraryAnswer i .noSuchEntry := by
  unfold programQuery
  dsimp only
  rw [if_neg (by rw [hok]; decide), hi]

end

/-! ### DEVIATION_QUERY, CELL_STATUS and YIELD_QUERY -/

section
variable {s : State} {i : StationId} {h : HandlerId}

theorem deviationQuery_entry (d : DevId) :
    deviationQuery (some (number d)) s =
      match s.deviations[d] with
      | none => refuse s .noSuchEntry
      | some e => accept s (.deviation e) := by
  unfold deviationQuery
  dsimp only
  rw [indexOfNumber?_number] <;> rfl

/-- The handler a query is about: the one named, or the one bound to a CELL sender that names none (R85, R130). -/
theorem State.queriedHandler_eq {named : Option Nat}
    (hform : named = some (number h) ∨
      (named = none ∧ (s.rolesOf i).has .cell = true ∧ s.stations[i].bound = some h)) :
    s.queriedHandler i named = some h := by
  unfold State.queriedHandler
  rcases hform with rfl | ⟨rfl, hcell, hb⟩
  · exact indexOfNumber?_number h
  · exact (if_pos hcell).trans hb

theorem cellStatus_eq {named : Option Nat} (hq : s.queriedHandler i named = some h) (part : Option CellPart) :
    cellStatus i named part s =
      match part.getD .status with
      | .status => accept s (.cellStatus (s.cellStatus h))
      | .setup => accept s (.cellSetup s.handlers[h].setup)
      | .other => refuse s .badFormat := by
  unfold cellStatus
  rw [hq] <;> rfl

theorem yieldQuery_empty {named : Option Nat} (hq : s.queriedHandler i named = some h) (hg : s.guards[h] = none) :
    yieldQuery i named .lot s = refuse s .empty := by
  unfold yieldQuery
  rw [hq]
  dsimp only
  rw [hg]
  rfl

theorem yieldQuery_run {named : Option Nat} {part : YieldPart} {g : GuardRun} {l : Lot}
    (hq : s.queriedHandler i named = some h) (hok : yieldPartOk part = true) (hg : s.guards[h] = some g)
    (hl : s.lot? g.lot = some l) : yieldQuery i named part s = s.yieldAnswer h g l part := by
  unfold yieldQuery
  rw [hq]
  dsimp only
  rw [if_neg (by rw [hok]; decide), hg]
  dsimp only
  rw [hl]

theorem State.yieldAnswer_sites {g : GuardRun} {l : Lot} {c : HandlerConfig} (hc : s.handlers[h].config = some c) (first : Nat) :
    s.yieldAnswer h g l (.sites first) =
      if first = 5 && c.siteCount < 5 then refuse s .noSuchEntry else accept s (s.yieldSites c g l first) := by
  unfold State.yieldAnswer
  dsimp only
  rw [hc]

theorem ringFails_eq (ring : List Bool) : ringFails ring = ring.count false := by
  unfold ringFails
  rw [List.count]
  congr 1
  funext b
  cases b <;> rfl

theorem sitesShown_eq {first n : Nat} (hfirst : 1 ≤ first) :
    (List.finRange 8).filter (fun i : SiteIx => first - 1 ≤ i.val && i.val < first + 3 && i.val < n) =
      (List.finRange 8).filter (fun i : SiteIx => first ≤ i.val + 1 && i.val + 1 < first + 4 && i.val < n) := by
  refine List.filter_congr fun i _ => ?_
  rw [Bool.eq_iff_iff]
  simp only [Bool.and_eq_true, decide_eq_true_eq]
  omega

end

/-- Settles O53: each query by the entry it names. -/
theorem tableQueries : Obligations.TableQueries := by
  refine ⟨fun m s => ⟨fun i htakes => ⟨?_, fun n r st h1 h4 hr hst => ?_⟩, fun htakes => ?_, fun u htakes => ?_,
    fun htakes => ⟨State.request_answers htakes rfl, fun d e he => ?_, fun d hd => ?_⟩,
    fun htakes => State.request_answers htakes rfl⟩, fun m h s named hform => ?_⟩
  · exact State.request_answers htakes (productQuery_header i)
  · exact State.request_answers htakes (productQuery_step (s := s.taken) h1 h4 hr hst)
  · intro does content
    refine ⟨fun p n i e hok hi he => ?_, fun i e he hlow => ?_, fun i e n hn he hlow => ?_, fun n hn hno => ?_⟩
    · exact State.request_answers htakes ((programQuery_revision (s := s.taken) hok hi).trans
        (State.libraryAnswer_eq (s := s.taken) he _))
    · exact State.request_answers htakes ((State.libraryScan_some (s := s.taken) (after := none) (by simp) he
        (fun j _ hj => hlow j hj)).trans (State.libraryAnswer_eq (s := s.taken) he _))
    · refine State.request_answers htakes ((if_neg (by omega)).trans
        ((State.libraryScan_some (s := s.taken) (after := some n) (i := i) ?_ he ?_).trans
          (State.libraryAnswer_eq (s := s.taken) he _)))
      · rintro _ ⟨⟩; exact hn
      · exact fun j hafter hj => hlow j (hafter n rfl) hj
    · refine State.request_answers htakes ((if_neg (by omega)).trans
        (State.libraryScan_none (s := s.taken) (after := some n) fun j hafter => hno j (hafter n rfl)))
  · refine State.request_answers htakes ?_
    unfold testerQuery
    rw [indexOfNumber?_number]
    rfl
  · refine State.request_answers htakes ((deviationQuery_entry d).trans ?_)
    rw [show s.taken.deviations[d] = some e from he] <;> rfl
  · refine State.request_answers htakes ((deviationQuery_entry d).trans ?_)
    rw [show s.taken.deviations[d] = none from hd] <;> rfl
  · intro x
    have hq := State.queriedHandler_eq (s := s.taken) hform
    refine ⟨fun htakes => ?_, fun htakes => ⟨fun hg => ?_, fun g l c hg hl hc => ?_⟩⟩
    · have hstatus := State.request_answers htakes (cellStatus_eq hq none)
      exact ⟨(State.request_answers htakes (cellStatus_eq hq (some .status))).trans hstatus.symm, hstatus,
        State.request_answers htakes (cellStatus_eq hq (some .setup))⟩
    · exact State.request_answers htakes (yieldQuery_empty hq hg)
    · intro st r n fraction
      refine ⟨?_, fun first hfirst => ?_, fun hcount => ?_⟩
      · refine (State.request_answers htakes (yieldQuery_run (s := s.taken) (part := .lot) hq rfl hg hl)).trans ?_
        dsimp only [State.yieldAnswer, State.yieldLot, windowYield]
        rw [ringFails_eq]
        rfl
      · have hok : yieldPartOk (.sites first) = true := by
          rcases hfirst with rfl | ⟨rfl, -⟩ <;> rfl
        have hshown : ¬ (first = 5 && c.siteCount < 5) = true := by
          rw [Bool.and_eq_true, decide_eq_true_eq, decide_eq_true_eq]
          omega
        refine (State.request_answers htakes ((yieldQuery_run (s := s.taken) hq hok hg hl).trans
          ((State.yieldAnswer_sites (s := s.taken) hc first).trans (if_neg hshown)))).trans ?_
        unfold State.yieldSites
        rw [sitesShown_eq (by omega)]
        rfl
      · refine State.request_answers htakes ((yieldQuery_run (s := s.taken) hq rfl hg hl).trans
          ((State.yieldAnswer_sites (s := s.taken) hc 5).trans (if_pos ?_)))
        rw [Bool.and_eq_true, decide_eq_true_eq, decide_eq_true_eq]
        exact ⟨rfl, hcount⟩

end Sys2Proof.Machine
end

section
/-! SUPPORT. The Yield Guard: an accepted touchdown in its order, and what it counts. -/

namespace Sys2Proof.Machine

theorem Minors.keepsPosts {s t : State} (h : Minors s t) (k : Kind) : k.KeepsPosts s t := by
  induction h with
  | refl => exact .of_tables k rfl rfl rfl
  | tail _ hbc ih => exact ih.trans k (hbc.keepsPosts k)

theorem Minors.config {s t : State} (h : Minors s t) (g : HandlerId) : t.handlers[g].config = s.handlers[g].config :=
  ((h.keepsPosts .timeSet).handlers g).config (by decide)

/-! ### The request, and the order of its work -/

section
variable {s : State} {i : StationId} {h : HandlerId} {lot : Text} {l : Lot} {g : GuardRun} {c : HandlerConfig}

theorem touchdown_accepted {index : BitVec 16} {results : List Nat} {n : Nat} (hid : lotIdOk lot = true)
    (hbins : ∀ b ∈ results, b ≤ 16) (hl : s.lotNamed? lot = some l) (hb : s.stations[i].bound = some h)
    (hcur : s.handlers[h].cell.current = some l.slot) (hc : s.handlers[h].config = some c)
    (hlen : results.length = c.siteCount) (h1 : 1 ≤ c.siteCount) (h8 : c.siteCount ≤ 8) (hg : s.guards[h] = some g)
    (hseq : sequenceCheck g.lastIndex index = .accepted n) :
    touchdown i lot index results s = s.acceptTouchdown h l g index n results := by
  have hcount : ¬ (s.handlers[h].config.all (fun c => c.siteCount ≠ results.length)) = true := by
    rw [hc, Option.all_some, decide_eq_true_eq, hlen]
    exact fun hn => hn rfl
  rw [touchdown_of_currentOf hid ⟨by omega, by omega⟩ hbins (State.currentOf_eq_ok hid hl hb hcur), State.touchdownOn, if_neg hcount,
    hg]
  dsimp only
  rw [hseq]

theorem State.updHandler_id (s : State) (h : HandlerId) {f : Handler → Handler} (hf : f s.handlers[h] = s.handlers[h]) :
    s.updHandler h f = s := by
  have hset : s.handlers.set h s.handlers[h] = s.handlers := Vector.set_getElem_self _
  unfold State.updHandler
  rw [hf, hset]

/-- The restart of the stall countdown, for a handler that still runs. -/
theorem State.restartStall_eq (s : State) (h : HandlerId) :
    s.updHandler h Handler.restartStall =
      if s.handlers[h].cell.name = .running then
        { s with handlers := s.handlers.set h { s.handlers[h] with stallLeft := s.handlers[h].stallTime, stalled := false } }
      else s := by
  split
  · next hrunning =>
    unfold State.updHandler
    rw [show s.handlers[h].restartStall = _ from if_pos hrunning]
  · next hnot => exact s.updHandler_id h (if_neg hnot)

/-- The site disparity check of a configured handler, by the site that it finds (R124). -/
theorem State.siteCheck_eq {st : RouteStep} {sites : Vector SiteCount 8} (hc : s.handlers[h].config = some c) :
    (∀ i, disparitySite? st c.sitesEnabled sites = some i →
      s.siteCheck st h sites = (({ s with
        handlers := s.handlers.set h { s.handlers[h] with
          config := some { c with sitesEnabled := c.sitesEnabled &&& ~~~(1 <<< i.val : BitVec 8) } } }).markBound h
        .siteDisabled (unitBit h), some i)) ∧
    (disparitySite? st c.sitesEnabled sites = none → s.siteCheck st h sites = (s, none)) := by
  have hsites : s.handlers[h].sites = c.sitesEnabled := by
    unfold Handler.sites
    rw [hc]
  have hconfig : ∀ f : HandlerConfig → HandlerConfig, s.handlers[h].config.map f = some (f c) := fun f => by
    rw [hc, Option.map_some]
  unfold State.siteCheck State.disableSite State.updHandler
  rw [hsites]
  refine ⟨fun i hi => ?_, fun hi => ?_⟩
  · rw [hi]
    dsimp only
    rw [hconfig]
  · rw [hi]

theorem State.checkTouchdown_eq {k : Slot} (hl : s.lot? k = some l) (hg : s.guards[h] = some g) :
    s.checkTouchdown h k =
      ({ holdChecks (s.stepOf l) k l.cur g.ring s with
          state := ((holdChecks (s.stepOf l) k l.cur g.ring s).state.siteCheck (s.stepOf l) h g.sites).1 },
        ((holdChecks (s.stepOf l) k l.cur g.ring s).state.siteCheck (s.stepOf l) h g.sites).2) := by
  unfold State.checkTouchdown
  rw [hl, hg]

theorem State.lookaheadDue_iff {k : Slot} (hl : s.lot? k = some l) (hc : s.handlers[h].config = some c)
    (hcell : s.handlers[h].cell = .running k none) :
    s.lookaheadDue h = true ↔ c.lookahead ≠ 0 ∧ l.cur.quantityIn ≤ l.cur.tested + c.lookahead := by
  unfold State.lookaheadDue
  rw [hcell, hc]
  dsimp only
  rw [hl]
  dsimp only
  rw [Bool.and_eq_true, decide_eq_true_eq, decide_eq_true_eq]
  omega

theorem State.lookaheadDue_false (hno : s.handlers[h].cell.name ≠ .running ∨ s.handlers[h].cell.reserved ≠ none) :
    s.lookaheadDue h = false := by
  unfold State.lookaheadDue
  cases hcell : s.handlers[h].cell with
  | running k r =>
    rw [hcell] at hno
    cases r with
    | none => exact absurd rfl (hno.resolve_left (not_not.2 rfl))
    | some q => rfl
  | _ => rfl

end

/-- Settles O46: the parts of the work in their order, the disparity check, and the lookahead selection. -/
theorem touchdown_works : Obligations.Touchdown := by
  refine ⟨?_, ?_, ?_⟩
  · intro m lot index results h l g c s htakes hid hbins hl hb hcur hc hlen h1 h8 hg does counted restart
    have hblock : ∀ n, sequenceCheck g.lastIndex index = .accepted n →
        touchdown m.sender lot index results s.taken = s.taken.acceptTouchdown h l g index n results := fun n hseq =>
      touchdown_accepted (s := s.taken) hid hbins hl hb hcur hc hlen h1 h8 hg hseq
    have hrestart : ∀ u : State, u.updHandler h Handler.restartStall = restart u := fun u => u.restartStall_eq h
    refine ⟨fun n hseq hfits hsome => ?_, fun n hseq hnone => ?_⟩
    · intro checked a
      refine (State.request_answers htakes (hblock n hseq)).trans ?_
      have hcounted : (unitsOf results).length ≠ 0 := fun h0 => hsome (List.eq_nil_of_length_eq_zero h0)
      rw [hfits, if_neg Bool.false_ne_true, if_neg hcounted, hrestart]
    · intro a
      refine (State.request_answers htakes (hblock n hseq)).trans ?_
      have hcounted : (if saturates l.cur (unitsOf results) then 0 else (unitsOf results).length) = 0 := by
        rcases hnone with hfull | hempty
        · exact if_pos hfull
        · rw [hempty]
          exact ite_self _
      rw [hcounted, if_pos rfl, hrestart]
  · intro s h k l g c hl hg hc held without
    have hconfig : held.state.handlers[h].config = some c := ((minors_holdChecks s _ _ _ _).config h).trans hc
    obtain ⟨hfound, hnone⟩ := State.siteCheck_eq (s := held.state) (st := s.stepOf l) (sites := g.sites) hconfig
    rw [State.checkTouchdown_eq hl hg]
    refine ⟨fun i hi => ?_, fun hi => ?_⟩
    · rw [show (holdChecks (s.stepOf l) k l.cur g.ring s).state.siteCheck (s.stepOf l) h g.sites = _ from hfound i hi]
    · rw [show (holdChecks (s.stepOf l) k l.cur g.ring s).state.siteCheck (s.stepOf l) h g.sites = _ from hnone hi]
  · intro s h k l c hl hc due
    have hoff : s.lookaheadDue h = false → s.lookahead h = (s, none) := fun hno => by
      rw [State.lookahead, hno]
      rfl
    refine ⟨fun hcell hdue => ?_, fun hcell hdue => ?_, fun hno => hoff (State.lookaheadDue_false hno)⟩
    · have hon := (State.lookaheadDue_iff hl hc hcell).2 hdue
      unfold State.lookahead
      rw [if_pos hon]
      refine ⟨fun x y hselect => ?_, fun hselect => ?_⟩
      · rw [hselect]
      · rw [hselect]
    · exact hoff (Bool.eq_false_iff.2 fun h => hdue ((State.lookaheadDue_iff hl hc hcell).1 h))

/-! ### The units of a touchdown -/

theorem filterMap_range_getElem? {α : Type} (p : α → Bool) (xs : List α) (n : Nat) :
    (List.range n).filterMap (fun i => (xs[i]?).filter p) = (xs.take n).filter p := by
  induction n with
  | zero => rfl
  | succ n ih =>
    rw [List.range_succ, List.filterMap_append, ih, List.take_add_one, List.filter_append, List.filterMap_cons, List.filterMap_nil]
    congr 1
    cases xs[n]? with
    | none => rfl
    | some x =>
      rw [Option.filter_some, Option.toList_some, List.filter_cons, List.filter_nil]
      cases p x <;> rfl

theorem unitsOf_eq (results : List Nat) :
    unitsOf results = (List.finRange 8).filterMap (fun i : SiteIx =>
      ((results[i.val]?).filter (fun b => b ≠ 0)).map (fun b => (i, b))) := by
  refine List.filterMap_congr fun i _ => ?_
  cases results[i.val]? with
  | none => rfl
  | some b =>
    rw [Option.filter_some]
    by_cases hb : b = 0
    · rw [decide_eq_false (not_not.2 hb)]
      exact if_pos hb
    · rw [decide_eq_true hb]
      exact if_neg hb

theorem mem_unitsOf {results : List Nat} {i : SiteIx} {b : Nat} : (i, b) ∈ unitsOf results ↔ results[i.val]? = some b ∧ b ≠ 0 := by
  rw [unitsOf_eq, List.mem_filterMap]
  constructor
  · rintro ⟨j, -, hj⟩
    obtain ⟨x, hx, e⟩ := Option.map_eq_some_iff.1 hj
    cases e
    obtain ⟨hx, hb⟩ := Option.filter_eq_some_iff.1 hx
    exact ⟨hx, of_decide_eq_true hb⟩
  · rintro ⟨hi, hb⟩
    exact ⟨i, List.mem_finRange i, Option.map_eq_some_iff.2 ⟨b, Option.filter_eq_some_iff.2 ⟨hi, decide_eq_true hb⟩, rfl⟩⟩

/-- The bins of the units are the results other than 0, in site order. -/
theorem unitsOf_bins {results : List Nat} (h : results.length ≤ 8) :
    (unitsOf results).map Prod.snd = results.filter (fun b => b ≠ 0) := by
  have hunit : ∀ i : SiteIx, (((results[i.val]?).filter (fun b => b ≠ 0)).map (fun b => (i, b))).map Prod.snd =
      (results[i.val]?).filter (fun b => b ≠ 0) := fun i => by rw [Option.map_map]; exact Option.map_id'
  have hrange := filterMap_range_getElem? (fun b : Nat => decide (b ≠ 0)) results 8
  rw [List.take_of_length_le h, ← List.map_coe_finRange_eq_range, List.filterMap_map] at hrange
  rw [unitsOf_eq, List.map_filterMap, funext hunit]
  exact hrange

/-- The units of a touchdown are of different sites. -/
theorem unitsOf_sites (results : List Nat) : (unitsOf results).Pairwise (fun u v => u.1 ≠ v.1) := by
  rw [unitsOf_eq, List.pairwise_filterMap]
  refine (List.nodup_finRange 8).imp fun {i j} hij u hu v hv => ?_
  obtain ⟨b, -, rfl⟩ := Option.map_eq_some_iff.1 hu
  obtain ⟨c, -, rfl⟩ := Option.map_eq_some_iff.1 hv
  exact hij

end Sys2Proof.Machine
end

section
/-! SUPPORT. The Yield Guard: what an accepted touchdown counts. -/

namespace Sys2Proof.Machine

section
variable (st : RouteStep)

/-- The units counted into a step record, by their bins (R112). -/
theorem StepRecord.foldl_countUnit (us : List (SiteIx × Nat)) (r : StepRecord) :
    us.foldl (fun r u => r.countUnit st u.2) r =
      { r with
        tested := r.tested + us.length
        good := r.good + (us.map Prod.snd).countP st.passes
        fails := ⟨r.fails.a + (us.map Prod.snd).countP (fun b => !st.passes b && st.groupOfBin b = .a),
                  r.fails.b + (us.map Prod.snd).countP (fun b => !st.passes b && st.groupOfBin b = .b),
                  r.fails.c + (us.map Prod.snd).countP (fun b => !st.passes b && st.groupOfBin b = .c),
                  r.fails.d + (us.map Prod.snd).countP (fun b => !st.passes b && st.groupOfBin b = .d)⟩ } := by
  induction us generalizing r with
  | nil => rfl
  | cons u us ih =>
    rw [List.foldl_cons, ih, StepRecord.countUnit]
    simp only [List.map_cons, List.countP_cons, List.length_cons]
    cases hpass : st.passes u.2 with
    | true => simp [Nat.add_assoc, Nat.add_comm 1]
    | false =>
      cases hgroup : st.groupOfBin u.2 <;> simp [PerGroup.update, Nat.add_assoc, Nat.add_comm 1]

/-- The outcomes that enter a ring, which keeps its newest ones (R113). -/
theorem foldl_pushOutcome (w : Nat) (ps : List Bool) (ring : List Bool) :
    ps.foldl (pushOutcome w) ring =
      if ps = [] then ring else (ring ++ ps).drop (ring.length + ps.length - w) := by
  induction ps generalizing ring with
  | nil => rfl
  | cons p ps ih =>
    rw [List.foldl_cons, ih, if_neg (List.cons_ne_nil p ps)]
    by_cases hps : ps = []
    · rw [if_pos hps, hps]
      rfl
    · have hlen : (pushOutcome w ring p).length = ring.length + 1 - (ring.length + 1 - w) := by
        rw [pushOutcome, List.length_drop, List.length_append, List.length_singleton]
      have hle : ring.length + 1 - w ≤ (ring ++ [p]).length := by
        rw [List.length_append, List.length_singleton]
        exact Nat.sub_le _ _
      rw [if_neg hps, hlen, pushOutcome, ← List.drop_append_of_le_length hle, List.drop_drop, List.append_assoc,
        List.singleton_append, List.length_cons]
      congr 1
      omega

/-- The ring and the sites of a run that counts units. -/
theorem GuardRun.countUnits_eq (enabled : BitVec 8) (us : List (SiteIx × Nat)) (g : GuardRun) :
    ∃ sites, g.countUnits st enabled us = { g with
      ring := ((us.map Prod.snd).map st.passes).foldl (pushOutcome st.window) g.ring
      sites := sites } ∧
      (∀ i, (∀ u ∈ us, u.1 ≠ i) → sites[i] = g.sites[i]) ∧
      (us.Pairwise (fun u v => u.1 ≠ v.1) → ∀ i b, (i, b) ∈ us →
        sites[i] = if enabled.getLsbD i.val then g.sites[i].count (st.passes b) else g.sites[i]) := by
  induction us generalizing g with
  | nil => exact ⟨g.sites, rfl, fun _ _ => rfl, by simp⟩
  | cons u us ih =>
    obtain ⟨sites, hrun, hother, hcounted⟩ := ih (g.countUnit st enabled u)
    have hfirst : ∀ i, (g.countUnit st enabled u).sites[i] =
        if i = u.1 then (if enabled.getLsbD i.val then g.sites[i].count (st.passes u.2) else g.sites[i]) else g.sites[i] := by
      intro i
      unfold GuardRun.countUnit
      dsimp only
      by_cases hi : i = u.1
      · rw [if_pos hi, hi]
        split
        · rw [set_getElem_fin, if_pos rfl]
        · rfl
      · rw [if_neg hi]
        split
        · rw [set_getElem_fin, if_neg (Ne.symm hi)]
        · rfl
    refine ⟨sites, hrun, fun i hi => ?_, fun hpair i b hb => ?_⟩
    · obtain ⟨hu, hus⟩ := List.forall_mem_cons.1 hi
      rw [hother i hus, hfirst, if_neg (Ne.symm hu)]
    · obtain ⟨hne, hrest⟩ := List.pairwise_cons.1 hpair
      rcases List.mem_cons.1 hb with rfl | hb
      · rw [hother i (fun v hv => Ne.symm (hne v hv)), hfirst, if_pos rfl]
      · rw [hcounted hrest i b hb, hfirst, if_neg (Ne.symm (hne _ hb))]

end

/-- The work of counting, in terms of the record put (R111 to R114). -/
theorem State.SlotsInOrder.countTouchdown_eq {s : State} (hs : s.SlotsInOrder) {l : Lot} (hl : s.lot? l.slot = some l)
    (h : HandlerId) (g : GuardRun) (index : BitVec 16) (n : Nat) (us : List (SiteIx × Nat)) :
    s.countTouchdown h l g index n us =
      { s.putLot { l with cur := (l.cur.addGap n).countUnits (s.stepOf l) us } with
        guards := s.guards.set h (some
          (if saturates l.cur us then { g with lastIndex := some index }
           else { g with lastIndex := some index }.countUnits (s.stepOf l) s.handlers[h].sites us)) } := by
  unfold State.countTouchdown
  dsimp only
  rw [hs.updLot_eq hl (fun x => { x with cur := (x.cur.addGap n).countUnits (s.stepOf l) us }) rfl]

theorem RunEntry.addGap_eq (n : Nat) :
    RunEntry.addGap n = fun r => if r.endTime = none then { r with gapTotal := min 16777215 (r.gapTotal + n) } else r := by
  funext r
  rw [RunEntry.addGap, holdAt_eq, if_congr Option.isNone_iff_eq_none rfl rfl]
  rfl

theorem saturates_iff (r : StepRecord) (us : List (SiteIx × Nat)) : saturates r us = true ↔ 16777215 < r.tested + us.length :=
  decide_eq_true_iff

/-- Settles O47: the record of the step and the guard's run after the units of a touchdown. -/
theorem touchdownCounts : Obligations.TouchdownCounts := by
  intro s h l g index n results hs hl hlen st bins full t runs failed
  have hcount := hs.countTouchdown_eq hl h g index n (unitsOf results)
  have hbins : (unitsOf results).map Prod.snd = bins := unitsOf_bins hlen
  have hlength : (unitsOf results).length = bins.length := by rw [← hbins, List.length_map]
  have hfull : saturates l.cur (unitsOf results) = true ↔ full := by rw [saturates_iff, hlength]
  have hruns : (l.cur.addGap n) = { l.cur with runs := runs } := by rw [StepRecord.addGap, RunEntry.addGap_eq]
  have hsame : saturates (l.cur.addGap n) (unitsOf results) = saturates l.cur (unitsOf results) := rfl
  refine ⟨fun hf => ?_, fun hf => ?_⟩
  · rw [StepRecord.countUnits, hsame, hfull.2 hf, if_pos rfl, if_pos rfl, hruns] at hcount
    exact hcount
  · have hfits : saturates l.cur (unitsOf results) = false := Bool.eq_false_iff.2 fun hs => hf (hfull.1 hs)
    obtain ⟨sites, hrun, hother, hcounted⟩ :=
      GuardRun.countUnits_eq st s.handlers[h].sites (unitsOf results) { g with lastIndex := some index }
    rw [StepRecord.countUnits, hsame, hfits, if_neg Bool.false_ne_true, if_neg Bool.false_ne_true,
      StepRecord.foldl_countUnit, hbins, hlength, hruns, hrun, hbins, foldl_pushOutcome, List.length_map,
      if_congr List.map_eq_nil_iff rfl rfl] at hcount
    have hnone : ∀ i : SiteIx, (∀ b, results[i.val]? = some b → b = 0) → sites[i] = g.sites[i] := fun i hno =>
      hother i fun u hu hi => by
        obtain ⟨hb, h0⟩ := mem_unitsOf.1 (show (u.1, u.2) ∈ unitsOf results from hu)
        rw [hi] at hb
        exact h0 (hno _ hb)
    refine ⟨sites, hcount, fun i => ?_⟩
    cases hb : results[i.val]? with
    | none => exact hnone i fun b h => by rw [hb] at h; cases h
    | some b =>
      by_cases h0 : b = 0
      · rw [hnone i fun c hc => by rw [hb] at hc; cases hc; exact h0]
        subst h0
        rfl
      · rw [hcounted (unitsOf_sites results) i b (mem_unitsOf.2 ⟨hb, h0⟩)]
        dsimp only
        rw [decide_eq_true (show b ≠ 0 from h0), Bool.true_and]
        rfl

end Sys2Proof.Machine
end

section
/-! SUPPORT. The Yield Guard: what trips the checks, and the site that the disparity check finds. -/

namespace Sys2Proof.Machine

/-! ### The hold checks -/

theorem trippedGroups_bit (st : RouteStep) (r : StepRecord) (g : BinGroup) :
    (trippedGroups st r).getLsbD g.code = true ↔ st.minSample ≤ r.tested ∧ groupTrips st r g = true := by
  have hbits : ∀ (f : BinGroup → Bool), (BinGroup.all.foldl (fun m g => if f g then m ||| (1 <<< g.code : BitVec 4) else m) 0).getLsbD
      g.code = f g := by
    intro f
    simp only [BinGroup.all, List.foldl_cons, List.foldl_nil]
    cases g <;> cases f .a <;> cases f .b <;> cases f .c <;> cases f .d <;> rfl
  unfold trippedGroups
  split
  · next hs => rw [hbits]; exact (and_iff_right hs).symm
  · next hs => exact ⟨fun h => by simp at h, fun h => absurd h.1 hs⟩

theorem yieldLowTrips_iff (st : RouteStep) (r : StepRecord) :
    yieldLowTrips st r = true ↔ st.minSample ≤ r.tested ∧ r.armed = true ∧ r.good * 1000 / r.tested < st.yieldLow := by
  rw [yieldLowTrips, cumulativeDue, Bool.and_eq_true, Bool.and_eq_true, decide_eq_true_eq, decide_eq_true_eq, and_assoc]
  rfl

theorem cumulativeRearms_iff (st : RouteStep) (r : StepRecord) :
    cumulativeRearms st r = true ↔
      st.minSample ≤ r.tested ∧ r.armed = false ∧ st.yieldLow + st.hysteresis ≤ r.good * 1000 / r.tested := by
  rw [cumulativeRearms, cumulativeDue, Bool.and_eq_true, Bool.and_eq_true, Bool.not_eq_true', decide_eq_true_eq,
    decide_eq_true_eq, and_assoc]
  rfl

theorem windowLowTrips_iff (st : RouteStep) (ring : List Bool) :
    windowLowTrips st ring = true ↔ ring.length = st.window ∧ st.windowLow ≠ 0 ∧
      (st.window - ring.count false) * 1000 / st.window < st.windowLow := by
  rw [windowLowTrips, Bool.and_eq_true, Bool.and_eq_true, decide_eq_true_eq, decide_eq_true_eq, decide_eq_true_eq, and_assoc,
    windowYield, ringFails_eq]
  rfl

/-! ### The gap of a site -/

theorem foldl_counts (sites : Vector SiteCount 8) (is : List SiteIx) (acc : SiteCount) :
    is.foldl (fun acc j => { tested := acc.tested + sites[j].tested, good := acc.good + sites[j].good }) acc =
      ⟨acc.tested + (is.map (fun j => sites[j].tested)).sum, acc.good + (is.map (fun j => sites[j].good)).sum⟩ := by
  induction is generalizing acc with
  | nil => rfl
  | cons j is ih =>
    rw [List.foldl_cons, ih, List.map_cons, List.map_cons, List.sum_cons, List.sum_cons, Nat.add_assoc, Nat.add_assoc]

theorem othersOf_eq (enabled : BitVec 8) (sites : Vector SiteCount 8) (i : SiteIx) :
    othersOf enabled sites i =
      ⟨(((sitesOf enabled).filter (fun j => j ≠ i)).map (fun j => sites[j].tested)).sum,
        (((sitesOf enabled).filter (fun j => j ≠ i)).map (fun j => sites[j].good)).sum⟩ := by
  rw [othersOf, foldl_counts, Nat.zero_add, Nat.zero_add]

theorem mem_sitesOf {enabled : BitVec 8} {i : SiteIx} : i ∈ sitesOf enabled ↔ enabled.getLsbD i.val = true := by
  rw [sitesOf, List.mem_filter]
  exact and_iff_right (List.mem_finRange i)

theorem sitesOf_pairwise (enabled : BitVec 8) : (sitesOf enabled).Pairwise (· < ·) :=
  (List.pairwise_lt_finRange 8).filter _

/-! ### The site with the largest gap -/

theorem foldl_worse_none {xs : List (SiteIx × Int)} : xs.foldl worse none = none ↔ xs = [] := by
  have hsome : ∀ (ys : List (SiteIx × Int)) b, ys.foldl worse (some b) ≠ none := by
    intro ys
    induction ys with
    | nil => exact fun b h => by cases h
    | cons y ys ih =>
      intro b
      rw [List.foldl_cons, worse]
      split
      · exact ih y
      · exact ih b
  cases xs with
  | nil => exact ⟨fun _ => rfl, fun _ => rfl⟩
  | cons x xs => exact ⟨fun h => absurd h (hsome xs x), fun h => absurd h (List.cons_ne_nil x xs)⟩

/-- Of sites in order, the one found has the largest gap, and is the first of those that share it. -/
theorem foldl_worse_some {xs : List (SiteIx × Int)} (hxs : xs.Pairwise (fun x y => x.1 < y.1)) {a : SiteIx × Int}
    (h : xs.foldl worse none = some a) : a ∈ xs ∧ ∀ x ∈ xs, x.2 ≤ a.2 ∧ (x.1 < a.1 → x.2 < a.2) := by
  induction xs using List.reverseRecOn generalizing a with
  | nil => cases h
  | append_singleton xs x ih =>
    obtain ⟨hbefore, -, hlast⟩ := List.pairwise_append.1 hxs
    rw [List.foldl_append, List.foldl_cons, List.foldl_nil] at h
    simp only [List.mem_append, List.mem_singleton]
    cases hb : xs.foldl worse none with
    | none =>
      rw [hb] at h
      cases h
      refine ⟨.inr rfl, fun y hy => ?_⟩
      rw [foldl_worse_none.1 hb] at hy
      rcases hy with hy | rfl
      · cases hy
      · exact ⟨le_refl _, fun hlt => absurd hlt (lt_irrefl _)⟩
    | some b =>
      obtain ⟨hmem, hbest⟩ := ih hbefore hb
      rw [hb, worse] at h
      split at h
      · next hlt =>
        cases h
        refine ⟨.inr rfl, fun y hy => ?_⟩
        rcases hy with hy | rfl
        · have hle := (hbest y hy).1
          exact ⟨by omega, fun _ => by omega⟩
        · exact ⟨le_refl _, fun hlt => absurd hlt (lt_irrefl _)⟩
      · next hnot =>
        cases h
        refine ⟨.inl hmem, fun y hy => ?_⟩
        rcases hy with hy | rfl
        · exact hbest y hy
        · exact ⟨by omega, fun hlt => absurd hlt (lt_asymm (hlast a hmem y (List.mem_singleton.2 rfl)))⟩

section
variable {minSample : Nat} {enabled : BitVec 8} {sites : Vector SiteCount 8}

/-- The enabled sites that have a gap, in order, each with it. -/
theorem gaps_pairwise : ((sitesOf enabled).filterMap (fun i => (siteGap? minSample enabled sites i).map (fun g => (i, g)))).Pairwise
    (fun x y => x.1 < y.1) := by
  refine List.pairwise_filterMap.2 ((sitesOf_pairwise enabled).imp fun {i j} hij x hx y hy => ?_)
  obtain ⟨g, -, rfl⟩ := Option.map_eq_some_iff.1 hx
  obtain ⟨g', -, rfl⟩ := Option.map_eq_some_iff.1 hy
  exact hij

theorem mem_gaps {i : SiteIx} {g : Int} :
    (i, g) ∈ (sitesOf enabled).filterMap (fun i => (siteGap? minSample enabled sites i).map (fun g => (i, g))) ↔
      enabled.getLsbD i.val = true ∧ siteGap? minSample enabled sites i = some g := by
  rw [List.mem_filterMap]
  constructor
  · rintro ⟨j, hj, e⟩
    obtain ⟨g', hg, e'⟩ := Option.map_eq_some_iff.1 e
    cases e'
    exact ⟨mem_sitesOf.1 hj, hg⟩
  · rintro ⟨hi, hg⟩
    exact ⟨i, mem_sitesOf.2 hi, by rw [hg]; rfl⟩

theorem worstSite?_iff {i : SiteIx} {g : Int} :
    worstSite? minSample enabled sites = some (i, g) ↔
      (enabled.getLsbD i.val = true ∧ siteGap? minSample enabled sites i = some g) ∧
      ∀ j x, enabled.getLsbD j.val = true → siteGap? minSample enabled sites j = some x → x ≤ g ∧ (j < i → x < g) := by
  constructor
  · intro h
    obtain ⟨hmem, hbest⟩ := foldl_worse_some gaps_pairwise h
    exact ⟨mem_gaps.1 hmem, fun j x hj hx => hbest (j, x) (mem_gaps.2 ⟨hj, hx⟩)⟩
  · rintro ⟨⟨hi, hg⟩, hbest⟩
    cases hw : worstSite? minSample enabled sites with
    | none => exact absurd (mem_gaps.2 ⟨hi, hg⟩) (by rw [foldl_worse_none.1 hw]; exact List.not_mem_nil)
    | some a =>
      obtain ⟨hmem, hfirst⟩ := foldl_worse_some gaps_pairwise hw
      obtain ⟨ha, hga⟩ := mem_gaps.1 (show (a.1, a.2) ∈ _ from hmem)
      obtain ⟨hle, hlt⟩ := hfirst (i, g) (mem_gaps.2 ⟨hi, hg⟩)
      obtain ⟨hle', hlt'⟩ := hbest a.1 a.2 ha hga
      have hsite : a.1 = i := by
        rcases lt_trichotomy a.1 i with h | h | h
        · have := hlt' h; omega
        · exact h
        · have := hlt h; dsimp only at this hle; omega
      have hgap : a.2 = g := by rw [hsite, hg] at hga; exact (Option.some.inj hga).symm
      rw [← hsite, ← hgap]

theorem disparitySite?_iff {st : RouteStep} {i : SiteIx} :
    disparitySite? st enabled sites = some i ↔
      st.disparity ≠ 0 ∧ 2 ≤ (sitesOf enabled).length ∧
        ∃ g, worstSite? st.minSample enabled sites = some (i, g) ∧ (st.disparity : Int) < g := by
  unfold disparitySite?
  rw [Option.ite_none_right_eq_some, Bool.and_eq_true, decide_eq_true_eq, decide_eq_true_eq, and_assoc]
  refine and_congr_right fun _ => and_congr_right fun _ => ?_
  cases worstSite? st.minSample enabled sites with
  | none => simp
  | some a =>
    rw [Option.ite_none_right_eq_some]
    constructor
    · rintro ⟨hlt, e⟩
      cases e
      exact ⟨a.2, rfl, hlt⟩
    · rintro ⟨g, e, hlt⟩
      cases e
      exact ⟨hlt, rfl⟩

theorem siteBit_other : ∀ i j : SiteIx, j ≠ i → (1 <<< i.val : BitVec 8).getLsbD j.val = false := by decide

/-- With two sites enabled, one stays enabled when another is removed. -/
theorem enabled_without_ne_zero {i : SiteIx} (h : 2 ≤ (sitesOf enabled).length) :
    enabled &&& ~~~(1 <<< i.val : BitVec 8) ≠ 0 := by
  intro hzero
  have honly : ∀ j ∈ sitesOf enabled, j ∈ [i] := by
    intro j hj
    rw [List.mem_singleton]
    by_contra hne
    have hbit : (enabled &&& ~~~(1 <<< i.val : BitVec 8)).getLsbD j.val = true := by
      rw [BitVec.getLsbD_and, BitVec.getLsbD_not, mem_sitesOf.1 hj, siteBit_other i j hne, decide_eq_true j.isLt]
      rfl
    rw [hzero] at hbit
    simp at hbit
  have hle := (List.subperm_of_subset ((sitesOf_pairwise enabled).imp fun h => ne_of_lt h) honly).length_le
  rw [List.length_singleton] at hle
  omega

end

/-- Settles O48: the four checks as comparisons, and the disparity check as the first of the largest gaps. -/
theorem checksTrip : Obligations.ChecksTrip := by
  refine ⟨fun st r ring => ⟨decide_eq_true_iff, yieldLowTrips_iff st r, cumulativeRearms_iff st r, windowLowTrips_iff st ring,
    fun g => ?_⟩, ?_⟩
  · rw [trippedGroups_bit, groupTrips, Bool.and_eq_true, decide_eq_true_eq, decide_eq_true_eq]
    rfl
  intro st enabled sites on sample tested good gap has
  have hgapOf : ∀ i, siteGap? st.minSample enabled sites i = if has i then some (gap i) else none := fun i => by
    unfold siteGap?
    rw [othersOf_eq]
    refine if_congr ?_ rfl rfl
    rw [Bool.and_eq_true, Bool.and_eq_true, decide_eq_true_eq, decide_eq_true_eq, and_assoc]
    rfl
  have hsome : ∀ i g, siteGap? st.minSample enabled sites i = some g ↔ has i ∧ gap i = g := fun i g => by
    rw [hgapOf, Option.ite_none_right_eq_some, Option.some.injEq]
  have hdisparity : ∀ i, disparitySite? st enabled sites = some i ↔
      st.disparity ≠ 0 ∧ 2 ≤ on.length ∧ has i ∧ (st.disparity : Int) < gap i ∧
      (∀ j, has j → gap j ≤ gap i) ∧ (∀ j, j < i → has j → gap j < gap i) := by
    intro i
    rw [disparitySite?_iff]
    refine and_congr_right fun _ => and_congr_right fun _ => ?_
    constructor
    · rintro ⟨g, hworst, hlt⟩
      obtain ⟨⟨-, hg⟩, hbest⟩ := worstSite?_iff.1 hworst
      obtain ⟨hi, rfl⟩ := (hsome i g).1 hg
      exact ⟨hi, hlt, fun j hj => (hbest j (gap j) hj.1 ((hsome j _).2 ⟨hj, rfl⟩)).1,
        fun j hji hj => (hbest j (gap j) hj.1 ((hsome j _).2 ⟨hj, rfl⟩)).2 hji⟩
    · rintro ⟨hi, hlt, hmax, hfirst⟩
      refine ⟨gap i, worstSite?_iff.2 ⟨⟨hi.1, (hsome i _).2 ⟨hi, rfl⟩⟩, fun j x _ hx => ?_⟩, hlt⟩
      obtain ⟨hj, rfl⟩ := (hsome j x).1 hx
      exact ⟨hmax j hj, fun hji => hfirst j hji hj⟩
  refine ⟨fun i => ?_, fun i => ?_, hdisparity, fun i hi => enabled_without_ne_zero ((hdisparity i).1 hi).2.1, fun s h c hc => ?_⟩
  · rw [hsome]
    exact and_iff_left rfl
  · rw [hgapOf]
    exact ite_eq_right_iff.trans (by simp)
  · intro without
    exact State.siteCheck_eq (st := st) (sites := sites) hc

end Sys2Proof.Machine
end

section
/-! SUPPORT. A reason placed, as the record of its lot, and the reasons of a touchdown in their order. -/

namespace Sys2Proof.Machine

/-! ### The slots stay in order -/

theorem Minor.slotsInOrder {s t : State} (h : Minor s t) (hs : s.SlotsInOrder) : t.SlotsInOrder := by
  cases h with
  | lot k f hname => exact hs.updLot k fun x => (hname x).1
  | mark | markRoles | handler | tester | pending | releaseQueue => exact hs

theorem Minors.slotsInOrder {s t : State} (h : Minors s t) (hs : s.SlotsInOrder) : t.SlotsInOrder := by
  induction h with
  | refl => exact hs
  | tail _ hbc ih => exact hbc.slotsInOrder ih

/-! ### The record of a lot that a reason is placed on -/

/-- The state of a lot that a reason is placed on (R133 to R137). -/
def LotState.afterHold (r : HoldReason) : LotState → LotState
  | .queued _ => .held
  | .reserved _ _ _ => .held
  | .running h q => .draining h q r
  | .draining h q c => .draining h q c
  | .held => .held
  | .complete _ => .held
  | .released => .held
  | .scrapped => .scrapped

section
variable {s : State} {l : Lot} {r : HoldReason}

/-- A place offered reaches no lot but one that waits for release. -/
theorem State.SlotsInOrder.offerPlace_lot? (hs : s.SlotsInOrder) {k : Slot} (hl : s.lot? k = some l) (hno : l.state.waiting? = none) :
    s.offerPlace.lot? k = some l := by
  cases hlist : s.waitingList with
  | nil => rw [State.offerPlace_nil hlist]; exact hl
  | cons w ws =>
    obtain ⟨hw, hwaits⟩ := State.mem_waitingList (s := s) (l := w) (by rw [hlist]; exact List.mem_cons_self)
    have hne : k ≠ w.slot := by
      rintro rfl
      rw [State.lot?_of_mem hs hw] at hl
      cases hl
      rw [hno] at hwaits
      cases hwaits
    rw [State.offerPlace_cons hlist, hs.release_eq (State.lot?_of_mem hs hw)]
    exact (s.lot?_putLot_ne (l := { w with state := .released }) hne).trans hl

/-- A reason that is placed is on its lot, which moves as its state requires. -/
theorem State.SlotsInOrder.placeHold_lot (hs : s.SlotsInOrder) (hl : s.lot? l.slot = some l) (hno : l.hasHold r = false)
    (hlive : l.state ≠ .scrapped) (who : Option StationId) (gs : BitVec 4) :
    (s.placeHold l.slot r who gs).2 = true ∧ ∃ es, (s.placeHold l.slot r who gs).1.lot? l.slot =
      some { l.withHold ⟨r, s.floorTime, who, gs⟩ with state := l.state.afterHold r, endorsements := es } := by
  have hput : ∀ x : Lot, x.slot = l.slot → (s.holdMarked.putLot x).lot? l.slot = some x := fun x hx => hs.lot?_holdMarked_putLot hl hx
  have hmark : ∀ (u : State) (h : HandlerId) (a : AttentionKind) (b : BitVec 16), (u.markBound h a b).lot? l.slot = u.lot? l.slot := by
    intro u h a b
    obtain ⟨ss, e⟩ := u.markBound_frame h a b
    rw [e]
    rfl
  rw [hs.placeHold_eq who gs hl hno hlive]
  refine ⟨rfl, ?_⟩
  cases hstate : l.state with
  | queued w => exact ⟨_, hput _ rfl⟩
  | reserved w h q =>
    dsimp only
    rw [hs.cancelReservation_putLot hl (x := l.withHold _) rfl hstate, hmark]
    exact ⟨_, hput _ rfl⟩
  | running h q =>
    dsimp only
    rw [hs.startDrain_putLot hl (x := l.withHold _) rfl h q, hmark]
    exact ⟨_, hput _ rfl⟩
  | draining h q c =>
    refine ⟨l.endorsements, ?_⟩
    rw [show (LotState.draining h q c).afterHold r = l.state from hstate.symm]
    exact hput (l.withHold ⟨r, s.floorTime, who, gs⟩) rfl
  | held =>
    refine ⟨l.endorsements, ?_⟩
    rw [show LotState.held.afterHold r = l.state from hstate.symm]
    exact hput (l.withHold ⟨r, s.floorTime, who, gs⟩) rfl
  | complete w => exact ⟨_, hput _ rfl⟩
  | released =>
    dsimp only
    rw [hs.recall_putLot hl (x := l.withHold _) rfl]
    refine ⟨[], State.SlotsInOrder.offerPlace_lot? (l := { l.withHold _ with state := .held, endorsements := [] }) ?_ (hput _ rfl) rfl⟩
    exact hs.holdMarked.putLot _
  | scrapped => exact absurd hstate hlive

end

theorem Lot.hasHold_iff (l : Lot) (r : HoldReason) : l.hasHold r = true ↔ ∃ e ∈ l.holds, e.reason = r := by
  rw [Lot.hasHold, List.any_eq_true]
  simp only [decide_eq_true_eq]

theorem Lot.hasHold_withHold (l : Lot) (e : HoldEntry) (r : HoldReason) :
    (l.withHold e).hasHold r = true ↔ l.hasHold r = true ∨ e.reason = r := by
  rw [Lot.hasHold_iff, Lot.hasHold_iff]
  constructor
  · rintro ⟨x, hx, hr⟩
    rcases mem_insertHold.1 hx with rfl | hx
    · exact .inr hr
    · exact .inl ⟨x, hx, hr⟩
  · rintro (⟨x, hx, hr⟩ | hr)
    · exact ⟨x, mem_insertHold.2 (.inr hx), hr⟩
    · exact ⟨e, mem_insertHold.2 (.inl rfl), hr⟩

/-- The entry of a reason just placed is the one that its lot's hold set finds. -/
theorem Lot.holdOf?_withHold {l : Lot} {e : HoldEntry} (hno : l.hasHold e.reason = false) : (l.withHold e).holdOf? e.reason = some e := by
  have hholds : ∀ x ∈ l.holds, x.reason ≠ e.reason := fun x hx hr =>
    Bool.eq_false_iff.1 hno ((l.hasHold_iff _).2 ⟨x, hx, hr⟩)
  unfold Lot.holdOf? Lot.withHold
  dsimp only
  generalize l.holds = es at hholds
  induction es with
  | nil => exact List.find?_cons_of_pos (decide_eq_true rfl)
  | cons a es ih =>
    obtain ⟨ha, hes⟩ := List.forall_mem_cons.1 hholds
    unfold insertHold
    split
    · exact List.find?_cons_of_pos (decide_eq_true rfl)
    · rw [List.find?_cons_of_neg (by rw [decide_eq_true_eq]; exact ha)]
      exact ih hes

theorem LotState.afterHold_live {x : LotState} (h : x ≠ .scrapped) (r : HoldReason) : x.afterHold r ≠ .scrapped := by
  cases x with
  | scrapped => exact absurd rfl h
  | _ => exact LotState.noConfusion

/-! ### The reasons of a touchdown -/

/-- What the checks made so far leave of a lot: the reasons tripped are on it, those it did not have were placed in their order,
and a lot that ran drains by the first of them. -/
structure Checked.Leaves (c : Checked) (l : Lot) (reasons : List HoldReason) : Prop where
  inOrder : c.state.SlotsInOrder
  placed : c.placed = reasons.filter (fun r => !l.hasHold r)
  lot : ∃ x, c.state.lot? l.slot = some x ∧ x.slot = l.slot ∧ x.state ≠ .scrapped ∧
    (∀ r, x.hasHold r = true ↔ l.hasHold r = true ∨ r ∈ reasons) ∧
    (c.placed = [] → x.state = l.state) ∧
    (∀ h q, l.state = .running h q → ∀ r rs, c.placed = r :: rs → x.state = .draining h q r)

section
variable {c : Checked} {l : Lot} {reasons : List HoldReason}

/-- A check that trips for a reason not met yet. -/
theorem Checked.Leaves.trip (hc : c.Leaves l reasons) {r : HoldReason} (hr : r ∉ reasons) (gs : BitVec 4) :
    (c.trip l.slot r gs).Leaves l (reasons ++ [r]) ∧
      (l.hasHold r = false → ∃ x e, (c.trip l.slot r gs).state.lot? l.slot = some x ∧ x.holdOf? r = some e ∧ e.groups = gs) := by
  obtain ⟨hin, hplaced, x, hx, hslot, hlive, hholds, hsame, hdrains⟩ := hc
  have hhas : x.hasHold r = l.hasHold r := by
    rw [Bool.eq_iff_iff, hholds]
    exact or_iff_left hr
  have hfilter : (reasons ++ [r]).filter (fun r => !l.hasHold r) = c.placed ++ if l.hasHold r then [] else [r] := by
    rw [List.filter_append, hplaced, List.filter_singleton]
    cases l.hasHold r <;> rfl
  have hmem : ∀ y, x.hasHold y = true ∨ r = y ↔ l.hasHold y = true ∨ y ∈ reasons ++ [r] := fun y => by
    rw [hholds, or_assoc, List.mem_append, List.mem_singleton, eq_comm (a := r)]
  unfold Checked.trip
  dsimp only
  cases hno : l.hasHold r with
  | true =>
    have hrefused : c.state.placeHold l.slot r none gs = (c.state, false) := by
      rw [← hslot]
      exact State.placeHold_refused none gs (by rw [hslot]; exact hx) (.inl (hhas.trans hno))
    rw [hrefused]
    refine ⟨⟨hin, ?_, x, hx, hslot, hlive, fun y => ?_, hsame, hdrains⟩, fun h => by cases h⟩
    · rw [hfilter, hno]
      exact (List.append_nil _).symm
    · rw [← hmem]
      exact (or_iff_left_of_imp fun h => by rw [← h, hhas, hno]).symm
  | false =>
    obtain ⟨hadded, es, hnow⟩ := hin.placeHold_lot (by rw [hslot]; exact hx) (hhas.trans hno) hlive none gs
    rw [hslot] at hadded hnow
    rw [hadded]
    refine ⟨⟨(minors_placeHold c.state l.slot r none gs).slotsInOrder hin, ?_, _, hnow, hslot, LotState.afterHold_live hlive r,
      fun y => ?_, fun h => ?_, fun h q hrun r' rs hlist => ?_⟩, fun _ => ⟨_, ⟨r, c.state.floorTime, none, gs⟩, hnow,
        Lot.holdOf?_withHold (e := ⟨r, c.state.floorTime, none, gs⟩) (hhas.trans hno), rfl⟩⟩
    · rw [hfilter, hno]
      rfl
    · exact (x.hasHold_withHold ⟨r, c.state.floorTime, none, gs⟩ y).trans (hmem y)
    · exact absurd h (by simp)
    · dsimp only
      cases hp : c.placed with
      | nil =>
        rw [if_pos rfl, hp] at hlist
        cases hlist
        rw [hsame hp, hrun]
        rfl
      | cons a as =>
        rw [if_pos rfl, hp] at hlist
        cases hlist
        rw [hdrains h q hrun _ _ hp]
        rfl

theorem Checked.Leaves.tripIf (hc : c.Leaves l reasons) (b : Bool) {r : HoldReason} (hr : r ∉ reasons) (gs : BitVec 4) :
    (c.tripIf b l.slot r gs).Leaves l (reasons ++ if b then [r] else []) := by
  cases b with
  | true => exact (hc.trip hr gs).1
  | false => rw [if_neg Bool.false_ne_true, List.append_nil]; exact hc

theorem Checked.Leaves.rearmIf (hc : c.Leaves l reasons) (b : Bool) : (c.rearmIf b l.slot).Leaves l reasons := by
  cases b with
  | false => exact hc
  | true =>
    obtain ⟨hin, hplaced, x, hx, hslot, hlive, hholds, hsame, hdrains⟩ := hc
    exact ⟨hin.updLot l.slot fun _ => rfl, hplaced, { x with cur := { x.cur with armed := true } },
      State.lot?_updLot_self hx (fun _ => rfl), hslot, hlive, hholds, hsame, hdrains⟩

end

/-- Settles O49: the four checks in their order, each adding its reason to those that trip. -/
theorem checksPlaceInOrder : Obligations.ChecksPlaceInOrder := by
  intro s k l st ring hs hl hlive r c reasons
  obtain rfl := State.lot?_slot hl
  have h0 : (Checked.mk s []).Leaves l [] :=
    ⟨hs, rfl, l, hl, rfl, hlive, fun y => (or_iff_left List.not_mem_nil).symm, fun _ => rfl, fun _ _ _ _ _ h => by cases h⟩
  have h1 := h0.tripIf (countExceeds r) (r := .countExcess) List.not_mem_nil 0
  have h2 := h1.tripIf (yieldLowTrips st r) (r := .yieldLow) (by split <;> simp) 0
  have h3 := (h2.rearmIf (cumulativeRearms st r)).tripIf (windowLowTrips st ring) (r := .windowLow)
    (by split <;> split <;> simp) 0
  have hspike : .binSpike ∉ ([] ++ (if countExceeds r then [HoldReason.countExcess] else [])) ++
      (if yieldLowTrips st r then [.yieldLow] else []) ++ (if windowLowTrips st ring then [.windowLow] else []) := by
    split <;> split <;> split <;> simp
  have h4 := h3.tripIf (trippedGroups st r ≠ 0) hspike (trippedGroups st r)
  have hc : c.Leaves l reasons := by
    simp only [decide_eq_true_eq] at h4
    exact h4
  have hquiet : reasons = [] → c = (Checked.mk s []).rearmIf (cumulativeRearms st r) l.slot := by
    intro hnone
    obtain ⟨habc, hd⟩ := List.append_eq_nil_iff.1 hnone
    obtain ⟨hab, hc'⟩ := List.append_eq_nil_iff.1 habc
    obtain ⟨ha, hb⟩ := List.append_eq_nil_iff.1 hab
    have hoff : ∀ {b : Bool} {x : HoldReason}, (if b then [x] else []) = [] → b = false := by
      intro b x h
      cases b with
      | false => rfl
      | true => cases h
    have hgroups : decide (trippedGroups st r ≠ 0) = false := by
      by_cases h : trippedGroups st r ≠ 0
      · rw [if_pos h] at hd
        cases hd
      · exact decide_eq_false h
    unfold c holdChecks
    rw [hoff ha, hoff hb, hoff hc', hgroups]
    rfl
  refine ⟨hc.placed, fun h q hrun hsome => ?_, fun hmem => ?_, fun hnone hno => ?_, fun hnone hyes => ?_⟩
  · obtain ⟨x, hx, -, -, hholds, -, hdrains⟩ := hc.lot
    obtain ⟨a, as, ha⟩ := List.exists_cons_of_ne_nil hsome
    refine ⟨x, hx, ?_, hholds⟩
    rw [hdrains h q hrun a as ha, ha]
    rfl
  · rw [hc.placed, List.mem_filter, Bool.not_eq_true'] at hmem
    obtain ⟨hin, hno⟩ := hmem
    have htripped : decide (trippedGroups st r ≠ 0) = true := by
      by_contra hzero
      have hzero' : ¬ trippedGroups st r ≠ 0 := fun h => hzero (decide_eq_true h)
      unfold reasons at hin
      rw [if_neg hzero', List.append_nil] at hin
      exact hspike hin
    obtain ⟨x, e, hx, he, hgroups⟩ := (h3.trip hspike (trippedGroups st r)).2 hno
    refine ⟨x, e, ?_, he, hgroups⟩
    unfold c holdChecks
    rw [htripped]
    exact hx
  · rw [hquiet hnone, hno]
    rfl
  · rw [hquiet hnone, hyes]
    exact hs.updLot_eq hl (fun l => { l with cur := { l.cur with armed := true } }) rfl

end Sys2Proof.Machine
end

section
/-! SUPPORT. The frame on the line: inserted bits, fields, and the check byte as a remainder of polynomials. -/

namespace Sys2Proof.Machine

/-! ### Inserted bits -/

/-- Levels in which no run passes five, read on from a run just read. -/
def RunsWithin (last : Bool) (run : Nat) : List Bool → Prop
  | [] => True
  | b :: bs => (if b = last then run + 1 else 1) ≤ 5 ∧ RunsWithin b (if b = last then run + 1 else 1) bs

theorem stuffFrom_runsWithin (bs : List Bool) {last : Bool} {run : Nat} (hrun : run ≤ 5) :
    RunsWithin last run (stuffFrom last run bs) := by
  have hflip : ∀ b : Bool, (!b) ≠ b := by decide
  induction bs generalizing last run with
  | nil =>
    rw [stuffFrom]
    split
    · rw [RunsWithin, if_neg (hflip last)]
      exact ⟨by decide, trivial⟩
    · trivial
  | cons b bs ih =>
    rw [stuffFrom]
    split
    · rw [RunsWithin, if_neg (hflip last), RunsWithin]
      have htwo : (if b = !last then 1 + 1 else 1) ≤ 5 := by split <;> omega
      exact ⟨by decide, htwo, ih htwo⟩
    · next hfive =>
      have hnext : (if b = last then run + 1 else 1) ≤ 5 := by split <;> omega
      exact ⟨hnext, ih hnext⟩

theorem RunsWithin.replicate {level : Bool} {n run : Nat} {post : List Bool}
    (h : RunsWithin level run (List.replicate (n + 1) level ++ post)) : run + (n + 1) ≤ 5 := by
  induction n generalizing run with
  | zero =>
    have hone := h.1
    rw [if_pos rfl] at hone
    exact hone
  | succ n ih =>
    have hrest := h.2
    rw [if_pos rfl] at hrest
    have := ih hrest
    omega

/-- Levels whose runs keep within five hold no six equal levels in a row. -/
theorem RunsWithin.no_six {last : Bool} {run : Nat} {xs : List Bool} (h : RunsWithin last run xs) (level : Bool) :
    ¬ List.replicate 6 level <:+: xs := by
  rintro ⟨pre, post, rfl⟩
  rw [List.append_assoc] at h
  induction pre generalizing last run with
  | nil =>
    have hrest := RunsWithin.replicate (n := 4) h.2
    split at hrest <;> omega
  | cons b pre ih => exact ih h.2

theorem stuff_no_six (bits : List Bool) (level : Bool) : ¬ List.replicate 6 level <:+: stuff bits := by
  cases bits with
  | nil =>
    intro h
    have hle := h.length_le
    rw [List.length_replicate, stuff, List.length_nil] at hle
    omega
  | cons b bs =>
    refine RunsWithin.no_six (last := !b) (run := 1) ?_ level
    have hflip : b ≠ !b := by cases b <;> decide
    rw [stuff, RunsWithin, if_neg hflip]
    exact ⟨by decide, stuffFrom_runsWithin bs (by decide)⟩

/-! ### The bits read back -/

/-- A reader that stands before the levels of some bits reads the first of them, and stands before those of the rest. -/
theorem LineReader.next_stuffFrom {last : Bool} {run : Nat} (hrun : run ≤ 5) (b : Bool) (bs : List Bool) :
    ∃ run' ≤ 5, (LineReader.mk (stuffFrom last run (b :: bs)) last run).next = some (b, ⟨stuffFrom b run' bs, b, run'⟩) := by
  by_cases hfive : run = 5
  · have hflip : ¬ (!last) = last := by cases last <;> decide
    refine ⟨if b = !last then 2 else 1, by split <;> omega, ?_⟩
    rw [stuffFrom, if_pos hfive, LineReader.next]
    dsimp only
    rw [if_pos hfive, if_neg hflip]
  · refine ⟨if b = last then run + 1 else 1, by split <;> omega, ?_⟩
    rw [stuffFrom, if_neg hfive, LineReader.next]
    dsimp only
    rw [if_neg hfive]

theorem LineReader.take_stuffFrom {last : Bool} {run : Nat} (hrun : run ≤ 5) (xs ys : List Bool) {n : Nat} (hn : xs.length = n) :
    ∃ last' run', run' ≤ 5 ∧ (LineReader.mk (stuffFrom last run (xs ++ ys)) last run).take n =
      some (xs, ⟨stuffFrom last' run' ys, last', run'⟩) := by
  induction xs generalizing last run n with
  | nil =>
    subst hn
    exact ⟨last, run, hrun, rfl⟩
  | cons x xs ih =>
    subst hn
    obtain ⟨run1, hrun1, hnext⟩ := LineReader.next_stuffFrom (last := last) hrun x (xs ++ ys)
    obtain ⟨last', run', hrun', htake⟩ := ih (last := x) hrun1 rfl
    refine ⟨last', run', hrun', ?_⟩
    rw [List.cons_append, List.length_cons, LineReader.take, hnext]
    dsimp only
    rw [htake]

theorem LineReader.endsIll_stuffFrom (last : Bool) (run : Nat) : (LineReader.mk (stuffFrom last run []) last run).endsIll = false := by
  rw [LineReader.endsIll, stuffFrom]
  by_cases hfive : run = 5
  · rw [if_pos hfive, decide_eq_true hfive]
    cases last <;> rfl
  · rw [decide_eq_false hfive]
    rfl

/-! ### Fields -/

theorem length_bitsOf (n w : Nat) : (bitsOf n w).length = n := by rw [bitsOf, List.length_map, List.length_range]

theorem bitsOf_succ (n w : Nat) : bitsOf (n + 1) w = w.testBit n :: bitsOf n w := by
  rw [bitsOf, List.range_succ_eq_map, List.map_cons, List.map_map, bitsOf]
  refine congrArg₂ List.cons rfl (List.map_congr_left fun i hi => ?_)
  have hlt := List.mem_range.1 hi
  rw [Function.comp, show n + 1 - 1 - (i + 1) = n - 1 - i from by omega]

theorem foldl_bits (bs : List Bool) (a : Nat) :
    bs.foldl (fun a b => 2 * a + b.toNat) a = a * 2 ^ bs.length + numberOf bs := by
  induction bs generalizing a with
  | nil => simp [numberOf]
  | cons b bs ih =>
    rw [numberOf, List.foldl_cons, List.foldl_cons, ih, ih (2 * 0 + b.toNat), List.length_cons, pow_succ]
    ring

theorem numberOf_bitsOf (n w : Nat) : numberOf (bitsOf n w) = w % 2 ^ n := by
  induction n with
  | zero => rw [pow_zero, Nat.mod_one]; rfl
  | succ n ih =>
    have hcons : numberOf (w.testBit n :: bitsOf n w) = (w.testBit n).toNat * 2 ^ n + numberOf (bitsOf n w) := by
      rw [numberOf, List.foldl_cons, foldl_bits, length_bitsOf, Nat.mul_zero, Nat.zero_add]
    rw [bitsOf_succ, hcons, ih, Nat.testBit_eq_decide_div_mod_eq, Nat.mod_pow_succ]
    rcases Nat.mod_two_eq_zero_or_one (w / 2 ^ n) with h | h <;> rw [h] <;> simp [Nat.add_comm]

theorem numberOf_bitsOf_of_lt {n w : Nat} (h : w < 2 ^ n) : numberOf (bitsOf n w) = w := by
  rw [numberOf_bitsOf, Nat.mod_eq_of_lt h]

theorem length_payloadBits (bytes : List Byte) : (payloadBits bytes).length = 8 * bytes.length := by
  induction bytes with
  | nil => rfl
  | cons b bytes ih =>
    rw [payloadBits, List.flatMap_cons, List.length_append, length_bitsOf, ← payloadBits, ih, List.length_cons]
    omega

theorem bytesOf_payloadBits (bytes : List Byte) : bytesOf bytes.length (payloadBits bytes) = bytes := by
  induction bytes with
  | nil => rfl
  | cons b bytes ih =>
    rw [payloadBits, List.flatMap_cons, List.length_cons, bytesOf, List.take_left' (length_bitsOf 8 _),
      List.drop_left' (length_bitsOf 8 _), ← payloadBits, ih, numberOf_bitsOf_of_lt b.isLt, BitVec.ofNat_toNat, BitVec.setWidth_eq]

/-! ### A frame read back -/

/-- The bits up to the receiver field, without the start bit. -/
def headBits (priority : Bool) (sender receiver : Nat) : List Bool := priority :: (bitsOf 5 sender ++ bitsOf 5 receiver)

/-- The bits of kind, tag and length. -/
def midBits (kind tag length : Nat) : List Bool := bitsOf 6 kind ++ bitsOf 4 tag ++ bitsOf 6 length

/-- The bits of payload and check byte. -/
def tailBits (sender receiver kind tag : Nat) (payload : List Byte) : List Bool :=
  payloadBits payload ++ bitsOf 8 (checkByte (checkedBits sender receiver kind tag payload)).toNat

section
variable (p : Bool) (sender receiver kind tag : Nat) (payload : List Byte)

theorem lineLevels_eq : lineLevels p sender receiver kind tag payload =
    false :: stuffFrom false 1 (headBits p sender receiver ++ (midBits kind tag payload.length ++
      (tailBits sender receiver kind tag payload ++ []))) := by
  unfold lineLevels frameBits stuff
  congr 2
  simp only [headBits, midBits, tailBits, checkedBits, List.cons_append, List.append_assoc, List.append_nil]

theorem checkedBits_eq : checkedBits sender receiver kind tag payload =
    (headBits p sender receiver).drop 1 ++ midBits kind tag payload.length ++ payloadBits payload := by
  simp only [checkedBits, headBits, midBits, List.drop_succ_cons, List.drop_zero, List.append_assoc]

/-- What the part makes of a frame, once its levels up to the receiver field are read. -/
theorem receive_lineLevels :
    ∃ last run, run ≤ 5 ∧ receive (lineLevels p sender receiver kind tag payload) =
      if receiver % 32 ≠ 0 then .ignored
      else receiveBody (headBits p sender receiver)
        ⟨stuffFrom last run (midBits kind tag payload.length ++ (tailBits sender receiver kind tag payload ++ [])), last, run⟩ := by
  have hlen : (headBits p sender receiver).length = 11 := by
    rw [headBits, List.length_cons, List.length_append, length_bitsOf, length_bitsOf]
  have hreceiver : numberOf ((headBits p sender receiver).drop 6) = receiver % 32 := by
    rw [headBits, List.drop_succ_cons, List.drop_left' (length_bitsOf 5 _), numberOf_bitsOf]
    rfl
  obtain ⟨last, run, hrun, htake⟩ := LineReader.take_stuffFrom (last := false) (run := 1) (by decide) (headBits p sender receiver)
    (midBits kind tag payload.length ++ (tailBits sender receiver kind tag payload ++ [])) hlen
  refine ⟨last, run, hrun, ?_⟩
  rw [lineLevels_eq, receive, htake]
  dsimp only
  rw [hreceiver]

variable {kind tag payload}

/-- The body of a well-formed frame to node 0, read back. -/
theorem receiveBody_lineLevels {i : StationId} (hkind : kind < 64) (htag : tag < 16) (hpayload : payload.length ≤ 48) {last : Bool}
    {run : Nat} (hrun : run ≤ 5) :
    receiveBody (headBits p (number i) 0)
      ⟨stuffFrom last run (midBits kind tag payload.length ++ (tailBits (number i) 0 kind tag payload ++ [])), last, run⟩ =
      .good { priority := p, sender := i, kind := kind, tag := Fin.ofNat 16 tag, payload := payload } := by
  have hmidLen : (midBits kind tag payload.length).length = 16 := by
    rw [midBits, List.length_append, List.length_append, length_bitsOf, length_bitsOf, length_bitsOf]
  have hkt : (bitsOf 6 kind ++ bitsOf 4 tag).length = 10 := by rw [List.length_append, length_bitsOf, length_bitsOf]
  have hlength : numberOf ((midBits kind tag payload.length).drop 10) = payload.length := by
    rw [midBits, List.drop_left' hkt, numberOf_bitsOf_of_lt (by omega)]
  have hkindRead : numberOf ((midBits kind tag payload.length).take 6) = kind := by
    rw [midBits, List.append_assoc, List.take_left' (length_bitsOf 6 _), numberOf_bitsOf_of_lt hkind]
  have htagRead : numberOf (((midBits kind tag payload.length).drop 6).take 4) = tag := by
    rw [midBits, List.append_assoc, List.drop_left' (length_bitsOf 6 _), List.take_left' (length_bitsOf 4 _),
      numberOf_bitsOf_of_lt htag]
  have htailLen : (tailBits (number i) 0 kind tag payload).length = 8 * payload.length + 8 := by
    rw [tailBits, List.length_append, length_payloadBits, length_bitsOf]
  have hpayloadRead : (tailBits (number i) 0 kind tag payload).take (8 * payload.length) = payloadBits payload :=
    List.take_left' (length_payloadBits payload)
  have hcheckRead : BitVec.ofNat 8 (numberOf ((tailBits (number i) 0 kind tag payload).drop (8 * payload.length))) =
      checkByte (checkedBits (number i) 0 kind tag payload) := by
    rw [tailBits, List.drop_left' (length_payloadBits payload), numberOf_bitsOf_of_lt (BitVec.isLt _), BitVec.ofNat_toNat,
      BitVec.setWidth_eq]
  have hsender : indexOfNumber? (numberOf (((headBits p (number i) 0).drop 1).take 5)) 31 = some i := by
    have hlt : number i < 2 ^ 5 := by have := i.isLt; unfold number; omega
    rw [headBits, List.drop_succ_cons, List.drop_zero, List.take_left' (length_bitsOf 5 _), numberOf_bitsOf_of_lt hlt,
      indexOfNumber?_number]
  obtain ⟨last1, run1, hrun1, hmid⟩ := LineReader.take_stuffFrom (last := last) hrun (midBits kind tag payload.length)
    (tailBits (number i) 0 kind tag payload ++ []) hmidLen
  obtain ⟨last2, run2, hrun2, htail⟩ := LineReader.take_stuffFrom (last := last1) hrun1 (tailBits (number i) 0 kind tag payload) []
    htailLen
  have hmatches : ¬ ((LineReader.mk (stuffFrom last2 run2 []) last2 run2).endsIll ||
      decide (checkByte ((headBits p (number i) 0).drop 1 ++ midBits kind tag payload.length ++ payloadBits payload) ≠
        checkByte (checkedBits (number i) 0 kind tag payload))) = true := by
    rw [LineReader.endsIll_stuffFrom, ← checkedBits_eq, Bool.false_or, decide_eq_true_eq]
    exact fun h => h rfl
  unfold receiveBody
  rw [hmid]
  dsimp only
  rw [hlength, if_neg (show ¬ Config.payloadMax < payload.length from Nat.not_lt.2 hpayload), htail]
  dsimp only
  rw [hpayloadRead, hcheckRead, if_neg hmatches, hsender]
  dsimp only
  rw [hkindRead, htagRead, bytesOf_payloadBits]
  rfl

end

/-- Settles O6: the fields are read one after the other from the stuffed levels. -/
theorem frameRoundTrip : Obligations.FrameRoundTrip := by
  refine ⟨fun p sender kind tag payload hpayload => ?_, fun p sender receiver kind tag payload hpayload hreceiver => ?_⟩
  · obtain ⟨last, run, hrun, hread⟩ := receive_lineLevels p (number sender) 0 kind.val tag.val payload
    rw [hread, if_neg (by decide), receiveBody_lineLevels p kind.isLt tag.isLt hpayload hrun]
    congr 2
    exact Fin.ext (Nat.mod_eq_of_lt tag.isLt)
  · obtain ⟨last, run, -, hread⟩ := receive_lineLevels p sender.val receiver.val kind.val tag.val payload
    refine hread.trans (if_pos ?_)
    rw [Nat.mod_eq_of_lt receiver.isLt]
    exact fun h => hreceiver (Fin.ext h)

/-! ### The check byte as a remainder -/

section
open Polynomial

/-- A bit as a number modulo 2. -/
def bitCoeff (b : Bool) : ZMod 2 := if b then 1 else 0

/-- A bit string as a polynomial modulo 2, the first bit the highest power. -/
noncomputable def bitPoly (bs : List Bool) : (ZMod 2)[X] := bs.foldl (fun p b => p * X + C (bitCoeff b)) 0

/-- The divisor of the check byte. -/
noncomputable def crcPoly : (ZMod 2)[X] := X ^ 8 + X ^ 2 + X + 1

theorem bitCoeff_xor (a b : Bool) : bitCoeff (a ^^ b) = bitCoeff a + bitCoeff b := by
  cases a <;> cases b <;> decide

theorem bitPoly_append (bs : List Bool) (b : Bool) : bitPoly (bs ++ [b]) = bitPoly bs * X + C (bitCoeff b) := by
  rw [bitPoly, List.foldl_append]
  rfl

theorem bitPoly_append_zeros (bs : List Bool) (n : Nat) : bitPoly (bs ++ List.replicate n false) = bitPoly bs * X ^ n := by
  induction n with
  | zero => rw [List.replicate_zero, List.append_nil, pow_zero, mul_one]
  | succ n ih =>
    rw [List.replicate_succ', ← List.append_assoc, bitPoly_append, ih, show bitCoeff false = 0 from rfl, C_0, add_zero, pow_succ,
      mul_assoc]

/-- A byte as a polynomial, coefficient by coefficient. -/
theorem bitPoly_byte (c : Byte) :
    bitPoly (bitsOf 8 c.toNat) =
      C (bitCoeff (c.getLsbD 7)) * X ^ 7 + C (bitCoeff (c.getLsbD 6)) * X ^ 6 + C (bitCoeff (c.getLsbD 5)) * X ^ 5 +
        C (bitCoeff (c.getLsbD 4)) * X ^ 4 + C (bitCoeff (c.getLsbD 3)) * X ^ 3 + C (bitCoeff (c.getLsbD 2)) * X ^ 2 +
        C (bitCoeff (c.getLsbD 1)) * X + C (bitCoeff (c.getLsbD 0)) := by
  have hbits : bitsOf 8 c.toNat = [c.getLsbD 7, c.getLsbD 6, c.getLsbD 5, c.getLsbD 4, c.getLsbD 3, c.getLsbD 2, c.getLsbD 1,
    c.getLsbD 0] := rfl
  rw [hbits, bitPoly]
  simp only [List.foldl_cons, List.foldl_nil]
  ring

/-- The bits of a step of the check byte: shifted up, and the divisor's lower bits taken off where the bit shifted out differs
from the bit read. -/
theorem crcStep_bits (c : Byte) (b : Bool) :
    (crcStep c b).getLsbD 0 = (c.getLsbD 7 ^^ b) ∧ (crcStep c b).getLsbD 1 = (c.getLsbD 0 ^^ (c.getLsbD 7 ^^ b)) ∧
    (crcStep c b).getLsbD 2 = (c.getLsbD 1 ^^ (c.getLsbD 7 ^^ b)) ∧
    ∀ i, 2 ≤ i → i < 7 → (crcStep c b).getLsbD (i + 1) = c.getLsbD i := by
  have hseven : (7#8).getLsbD 0 = true ∧ (7#8).getLsbD 1 = true ∧ (7#8).getLsbD 2 = true := by decide
  have hhigh : ∀ i, 2 ≤ i → i < 7 → (7#8).getLsbD (i + 1) = false := by decide
  have hmsb : c.msb = c.getLsbD 7 := rfl
  obtain ⟨h0, h1, h2⟩ := hseven
  have hdiffer : (c.msb != b) = (c.getLsbD 7 ^^ b) := rfl
  rw [crcStep, hdiffer]
  cases c.getLsbD 7 ^^ b with
  | true =>
    rw [if_pos rfl]
    simp only [BitVec.getLsbD_xor, BitVec.getLsbD_shiftLeft, h0, h1, h2]
    refine ⟨by simp, by simp, by simp, fun i hi hi' => ?_⟩
    rw [hhigh i hi hi']
    simp [show i + 1 < 8 by omega]
  | false =>
    rw [if_neg Bool.false_ne_true]
    simp only [BitVec.getLsbD_shiftLeft]
    refine ⟨by simp, by simp, by simp, fun i hi hi' => ?_⟩
    simp [show i + 1 < 8 by omega]

/-- One step of the check byte is one step of the division: times x, plus the bit at the top, less the divisor where the top
coefficient is 1. -/
theorem bitPoly_crcStep (c : Byte) (b : Bool) :
    bitPoly (bitsOf 8 c.toNat) * X + C (bitCoeff b) * X ^ 8 =
      bitPoly (bitsOf 8 (crcStep c b).toNat) + C (bitCoeff (c.getLsbD 7 ^^ b)) * crcPoly := by
  obtain ⟨h0, h1, h2, hhigh⟩ := crcStep_bits c b
  have htwo : (2 : (ZMod 2)[X]) = 0 := by
    rw [← C_ofNat]
    exact C_0
  rw [bitPoly_byte, bitPoly_byte, h0, h1, h2, hhigh 2 (by decide) (by decide), hhigh 3 (by decide) (by decide),
    hhigh 4 (by decide) (by decide), hhigh 5 (by decide) (by decide), hhigh 6 (by decide) (by decide), crcPoly]
  simp only [bitCoeff_xor, C_add]
  linear_combination (-(C (bitCoeff (c.getLsbD 7)) + C (bitCoeff b)) * (X ^ 2 + X + 1)) * htwo

theorem crcPoly_natDegree : crcPoly.natDegree = 8 := by
  rw [crcPoly]
  compute_degree!

theorem crcPoly_monic : crcPoly.Monic := by
  rw [crcPoly]
  monicity!

theorem bitPoly_byte_degree (c : Byte) : (bitPoly (bitsOf 8 c.toNat)).degree < crcPoly.degree := by
  rw [degree_eq_natDegree crcPoly_monic.ne_zero, crcPoly_natDegree, bitPoly_byte]
  refine lt_of_le_of_lt (b := ((7 : ℕ) : WithBot ℕ)) ?_ (by norm_num)
  compute_degree
  exact le_refl _

/-- The check byte differs from the string followed by eight 0 bits by a multiple of the divisor. -/
theorem bitPoly_checkByte (bits : List Bool) :
    ∃ q, bitPoly bits * X ^ 8 = bitPoly (bitsOf 8 (checkByte bits).toNat) + crcPoly * q := by
  induction bits using List.reverseRecOn with
  | nil => exact ⟨0, by simp [bitPoly, checkByte, bitsOf, bitCoeff]⟩
  | append_singleton bits b ih =>
    obtain ⟨q, hq⟩ := ih
    have hstep := bitPoly_crcStep (checkByte bits) b
    have hcheck : checkByte (bits ++ [b]) = crcStep (checkByte bits) b := by
      rw [checkByte, List.foldl_append]
      rfl
    refine ⟨q * X + C (bitCoeff ((checkByte bits).getLsbD 7 ^^ b)), ?_⟩
    rw [bitPoly_append, hcheck]
    linear_combination X * hq + hstep

/-- Settles O7: the check byte is the remainder of its step, and no run passes five. -/
theorem checkByteAndStuffing : Obligations.CheckByteAndStuffing := by
  refine ⟨fun bits => ?_, stuff_no_six⟩
  intro poly
  obtain ⟨q, hq⟩ := bitPoly_checkByte bits
  have hzeros : poly (bits ++ List.replicate 8 false) = bitPoly bits * X ^ 8 := bitPoly_append_zeros bits 8
  rw [hzeros]
  exact (div_modByMonic_unique q (bitPoly (bitsOf 8 (checkByte bits).toNat)) crcPoly_monic
    ⟨hq.symm, bitPoly_byte_degree _⟩).2

end

end Sys2Proof.Machine
end

section
/-! SUPPORT. The floor as its consistency sees it: where each lot stands, what each cell seats, and the slots of the release
queue (R67, R132, R155, R159). -/

namespace Sys2Proof.Machine

/-! ### Places, seats and entries -/

/-- Where a lot stands: on a handler, HELD, waiting for release, RELEASED, or away from all of these. -/
inductive Place where
  | away
  | held
  | waiting
  | released
  | reserved (h : HandlerId) (d : Option DevId)
  | running (h : HandlerId)
  | draining (h : HandlerId)

/-- The three ways in which a cell holds a lot. -/
inductive Seat where
  | reserved
  | running
  | draining

/-- The handler and the seat of a lot on a handler. -/
def Place.seat : Place → Option (HandlerId × Seat)
  | .reserved h _ => some (h, .reserved)
  | .running h => some (h, .running)
  | .draining h => some (h, .draining)
  | _ => none

/-- The deviation entry that a reservation names. -/
def Place.names : Place → DevId → Bool
  | .reserved _ (some x), d => x = d
  | _, _ => false

/-- Where a lot in a state stands. -/
def LotState.place : LotState → Place
  | .queued _ => .away
  | .reserved _ h r => .reserved h r.deviation
  | .running h _ => .running h
  | .draining h _ _ => .draining h
  | .held => .held
  | .complete none => .away
  | .complete (some _) => .waiting
  | .released => .released
  | .scrapped => .away

/-- What the consistency of the floor reads of a lot. -/
structure Entry where
  slot : Slot
  place : Place
  onHold : Bool

def Lot.entry (l : Lot) : Entry := ⟨l.slot, l.state.place, !l.holds.isEmpty⟩

/-- The lot in each seat of a cell. -/
def Cell.load : Cell → Seat → Option Slot
  | .preparing k, .reserved => some k
  | .ready k, .reserved => some k
  | .running _ q, .reserved => q
  | .running k _, .running => some k
  | .draining _ q, .reserved => q
  | .draining k _, .draining => some k
  | _, _ => none

/-- The floor as its consistency sees it. -/
structure Floor where
  roll : List Entry
  loads : HandlerId → Seat → Option Slot
  queue : List Slot
  pending : DevId → Nat

def State.floor (s : State) : Floor :=
  ⟨s.lots.map Lot.entry, fun h => s.handlers[h].cell.load, s.releaseQueue.map (·.slot),
    fun d => ((s.deviations[d]).map (·.pending)).getD 0⟩

/-- Lots, cells, holds and release queue agree. -/
structure Floor.Agrees (f : Floor) : Prop where
  slots : f.roll.Pairwise (fun a b => a.slot < b.slot)
  seats : ∀ h σ k, f.loads h σ = some k ↔ ∃ e ∈ f.roll, e.slot = k ∧ e.place.seat = some (h, σ)
  holds : ∀ e ∈ f.roll, e.onHold = true → e.place = .held ∨ ∃ h, e.place = .draining h
  length : f.queue.length ≤ 32
  nodup : f.queue.Nodup
  queued : ∀ k, k ∈ f.queue ↔ ∃ e ∈ f.roll, e.slot = k ∧ e.place = .released

/-- A lot waits for a place in the release queue. -/
def Floor.Waits (f : Floor) : Prop := ∃ e ∈ f.roll, e.place = .waiting

/-- A floor that agrees, and on which a lot waits only while the release queue is full. -/
def Floor.Consistent (f : Floor) : Prop := f.Agrees ∧ (f.Waits → f.queue.length = 32)

/-- The pending count of every deviation entry is the number of reservations that name it. -/
def Floor.Counted (f : Floor) : Prop := ∀ d, f.roll.countP (fun e => e.place.names d) = f.pending d

/-! ### The conditions on a state, read from its floor -/

theorem Lot.entry_onHold (l : Lot) : l.entry.onHold = true ↔ l.holds ≠ [] := by
  unfold Lot.entry
  cases l.holds <;> simp

theorem LotState.place_held {x : LotState} : x.place = .held ↔ x.name = .held := by
  rcases x with _ | _ | _ | _ | _ | w | _ | _
  case complete => cases w <;> simp [LotState.place, LotState.name]
  all_goals simp [LotState.place, LotState.name]

theorem LotState.place_draining {x : LotState} : (∃ h, x.place = .draining h) ↔ x.name = .draining := by
  rcases x with _ | _ | _ | _ | _ | w | _ | _
  case complete => cases w <;> simp [LotState.place, LotState.name]
  all_goals simp [LotState.place, LotState.name]

theorem LotState.place_released {x : LotState} : x.place = .released ↔ x = .released := by
  rcases x with _ | _ | _ | _ | _ | w | _ | _
  case complete => cases w <;> simp [LotState.place]
  all_goals simp [LotState.place]

theorem LotState.place_waiting {x : LotState} : x.place = .waiting ↔ x.waiting?.isSome = true := by
  rcases x with _ | _ | _ | _ | _ | w | _ | _
  case complete => cases w <;> simp [LotState.place, LotState.waiting?]
  all_goals simp [LotState.place, LotState.waiting?]

theorem LotState.seat_reserved {x : LotState} {h : HandlerId} :
    x.place.seat = some (h, .reserved) ↔ ∃ w r, x = .reserved w h r := by
  rcases x with _ | _ | _ | _ | _ | w | _ | _
  case complete => cases w <;> simp [LotState.place, Place.seat]
  all_goals simp [LotState.place, Place.seat]

theorem LotState.seat_running {x : LotState} {h : HandlerId} :
    x.place.seat = some (h, .running) ↔ ∃ r, x = .running h r := by
  rcases x with _ | _ | _ | _ | _ | w | _ | _
  case complete => cases w <;> simp [LotState.place, Place.seat]
  all_goals simp [LotState.place, Place.seat]

theorem LotState.seat_draining {x : LotState} {h : HandlerId} :
    x.place.seat = some (h, .draining) ↔ ∃ r c, x = .draining h r c := by
  rcases x with _ | _ | _ | _ | _ | w | _ | _
  case complete => cases w <;> simp [LotState.place, Place.seat]
  all_goals simp [LotState.place, Place.seat]

theorem Cell.load_reserved (c : Cell) : c.load .reserved = c.reserved := by cases c <;> rfl

theorem Cell.load_running (c : Cell) (k : Slot) : c.load .running = some k ↔ ∃ q, c = .running k q := by
  cases c <;> simp [Cell.load]

theorem Cell.load_draining (c : Cell) (k : Slot) : c.load .draining = some k ↔ ∃ q, c = .draining k q := by
  cases c <;> simp [Cell.load]

theorem State.mem_roll {s : State} {p : Entry → Prop} : (∃ e ∈ s.floor.roll, p e) ↔ ∃ l ∈ s.lots, p l.entry := by
  simp [State.floor]

/-- Lots and cells agree from both sides exactly when each seat holds the lot that stands in it. -/
theorem State.seats_iff (s : State) :
    (∀ h σ k, s.floor.loads h σ = some k ↔ ∃ e ∈ s.floor.roll, e.slot = k ∧ e.place.seat = some (h, σ)) ↔
      (∀ l ∈ s.lots, s.LotOnCell l) ∧ (∀ h, s.ReservedOfCell h) ∧ (∀ h, s.CurrentOfCell h) := by
  constructor
  · intro hseats
    have onReserved : ∀ h k, s.handlers[h].cell.reserved = some k ↔ ∃ l ∈ s.lots, l.slot = k ∧ ∃ w r, l.state = .reserved w h r :=
      fun h k => by
        rw [← Cell.load_reserved]
        exact (hseats h .reserved k).trans (State.mem_roll.trans (by simp only [Lot.entry, LotState.seat_reserved]))
    have onRunning : ∀ h k, (∃ q, s.handlers[h].cell = .running k q) ↔ ∃ l ∈ s.lots, l.slot = k ∧ ∃ r, l.state = .running h r :=
      fun h k => by
        rw [← Cell.load_running]
        exact (hseats h .running k).trans (State.mem_roll.trans (by simp only [Lot.entry, LotState.seat_running]))
    have onDraining : ∀ h k, (∃ q, s.handlers[h].cell = .draining k q) ↔
        ∃ l ∈ s.lots, l.slot = k ∧ ∃ r c, l.state = .draining h r c := fun h k => by
      rw [← Cell.load_draining]
      exact (hseats h .draining k).trans (State.mem_roll.trans (by simp only [Lot.entry, LotState.seat_draining]))
    refine ⟨fun l hl => ?_, fun h k hk => (onReserved h k).1 hk, fun h => ⟨fun k q hk => (onRunning h k).1 ⟨q, hk⟩,
      fun k q hk => (onDraining h k).1 ⟨q, hk⟩⟩⟩
    unfold State.LotOnCell
    split
    · next w h r hstate => exact (onReserved h l.slot).2 ⟨l, hl, rfl, w, r, hstate⟩
    · next h r hstate => exact (onRunning h l.slot).2 ⟨l, hl, rfl, r, hstate⟩
    · next h r c hstate => exact (onDraining h l.slot).2 ⟨l, hl, rfl, r, c, hstate⟩
    · trivial
  · rintro ⟨hlot, hreserved, hcurrent⟩ h σ k
    rw [State.mem_roll]
    cases σ with
    | reserved =>
      show s.handlers[h].cell.load .reserved = some k ↔ _
      rw [Cell.load_reserved]
      simp only [Lot.entry, LotState.seat_reserved]
      refine ⟨hreserved h k, ?_⟩
      rintro ⟨l, hl, rfl, w, r, hstate⟩
      have := hlot l hl
      rwa [State.LotOnCell, hstate] at this
    | running =>
      show s.handlers[h].cell.load .running = some k ↔ _
      rw [Cell.load_running]
      simp only [Lot.entry, LotState.seat_running]
      refine ⟨fun ⟨q, hq⟩ => (hcurrent h).1 k q hq, ?_⟩
      rintro ⟨l, hl, rfl, r, hstate⟩
      have := hlot l hl
      rwa [State.LotOnCell, hstate] at this
    | draining =>
      show s.handlers[h].cell.load .draining = some k ↔ _
      rw [Cell.load_draining]
      simp only [Lot.entry, LotState.seat_draining]
      refine ⟨fun ⟨q, hq⟩ => (hcurrent h).2 k q hq, ?_⟩
      rintro ⟨l, hl, rfl, r, c, hstate⟩
      have := hlot l hl
      rwa [State.LotOnCell, hstate] at this

theorem State.floor_slots (s : State) : s.floor.roll.Pairwise (fun a b => a.slot < b.slot) ↔ s.SlotsInOrder :=
  List.pairwise_map

theorem State.releaseQueueAgrees_iff (s : State) :
    s.ReleaseQueueAgrees ↔ s.floor.queue.length ≤ 32 ∧ s.floor.queue.Nodup ∧
      ∀ k, k ∈ s.floor.queue ↔ ∃ e ∈ s.floor.roll, e.slot = k ∧ e.place = .released := by
  have hlength : s.floor.queue.length = s.releaseQueue.length := List.length_map _
  have hmem : ∀ k, k ∈ s.floor.queue ↔ ∃ r ∈ s.releaseQueue, r.slot = k := fun k => List.mem_map
  unfold State.ReleaseQueueAgrees
  rw [hlength]
  refine and_congr_right (fun _ => and_congr_right (fun _ => ?_))
  simp only [hmem, State.mem_roll, Lot.entry, LotState.place_released]
  constructor
  · rintro ⟨hrecord, hlot⟩ k
    refine ⟨?_, ?_⟩
    · rintro ⟨r, hr, rfl⟩
      exact hrecord r hr
    · rintro ⟨l, hl, rfl, hstate⟩
      exact hlot l hl hstate
  · intro h
    exact ⟨fun r hr => (h r.slot).1 ⟨r, hr, rfl⟩, fun l hl hstate => (h l.slot).2 ⟨l, hl, rfl, hstate⟩⟩

theorem State.floor_waits (s : State) : s.floor.Waits ↔ s.waitingList ≠ [] := by
  unfold Floor.Waits
  have hmem : ∀ l, l ∈ s.waitingList ↔ l ∈ s.lots ∧ l.entry.place = .waiting := fun l => by
    simp only [Lot.entry, LotState.place_waiting, State.waitingList, List.mem_insertionSort, List.mem_filter]
  rw [State.mem_roll]
  constructor
  · rintro ⟨l, hl⟩
    exact List.ne_nil_of_mem ((hmem l).2 hl)
  · intro h
    obtain ⟨l, hl⟩ := List.exists_mem_of_ne_nil _ h
    exact ⟨l, (hmem l).1 hl⟩

theorem State.floor_holds (s : State) :
    (∀ e ∈ s.floor.roll, e.onHold = true → e.place = .held ∨ ∃ h, e.place = .draining h) ↔ ∀ l ∈ s.lots, l.HoldsInState := by
  show (∀ e ∈ s.lots.map Lot.entry, _) ↔ _
  rw [List.forall_mem_map]
  refine forall₂_congr (fun l _ => ?_)
  rw [Lot.entry_onHold]
  show (_ → l.state.place = .held ∨ ∃ h, l.state.place = .draining h) ↔ _
  rw [LotState.place_held, LotState.place_draining]
  rfl

theorem State.consistent_iff (s : State) : s.Consistent ↔ s.floor.Consistent := by
  constructor
  · intro h
    obtain ⟨hle, hnodup, hqueued⟩ := s.releaseQueueAgrees_iff.1 h.release
    refine ⟨⟨s.floor_slots.2 h.slots, s.seats_iff.2 ⟨h.lotOnCell, h.reservedOfCell, h.currentOfCell⟩,
      s.floor_holds.2 h.holds, hle, hnodup, hqueued⟩, fun hwaits => ?_⟩
    exact (List.length_map _).trans (h.waiting (s.floor_waits.1 hwaits))
  · rintro ⟨h, hfull⟩
    have hs : s.SlotsInOrder := s.floor_slots.1 h.slots
    obtain ⟨hlot, hreserved, hcurrent⟩ := s.seats_iff.1 h.seats
    refine ⟨hs, hlot, hreserved, hcurrent, s.floor_holds.1 h.holds,
      s.releaseQueueAgrees_iff.2 ⟨h.length, h.nodup, h.queued⟩, fun hwaits => ?_⟩
    exact (List.length_map _).symm.trans (hfull (s.floor_waits.2 hwaits))

theorem Lot.reservedUnder_eq (l : Lot) (d : DevId) : l.reservedUnder d = l.entry.place.names d := by
  unfold Lot.reservedUnder Lot.entry
  rcases l.state with _ | ⟨_, _, r⟩ | _ | _ | _ | w | _ | _
  case complete => cases w <;> rfl
  case reserved => cases hd : r.deviation <;> simp [LotState.place, Place.names, hd]
  all_goals rfl

theorem State.pendingCounts_iff (s : State) : s.PendingCounts ↔ s.floor.Counted := by
  unfold State.PendingCounts Floor.Counted
  refine forall_congr' (fun d => ?_)
  have hcount : s.floor.roll.countP (fun e => e.place.names d) = s.lots.countP (Lot.reservedUnder d) := by
    show (s.lots.map Lot.entry).countP _ = _
    rw [List.countP_map]
    exact congrArg (fun p => s.lots.countP p) (funext (fun l => (l.reservedUnder_eq d).symm))
  rw [hcount]
  rfl

/-! ### One entry replaced -/

def Floor.put (f : Floor) (e : Entry) : List Entry := f.roll.map (fun x => if x.slot = e.slot then e else x)

variable {f g : Floor} {e x : Entry}

theorem Floor.Agrees.unique (hf : f.Agrees) {a b : Entry} (ha : a ∈ f.roll) (hb : b ∈ f.roll) (h : a.slot = b.slot) : a = b :=
  List.inj_on_of_nodup_map ((List.pairwise_map.2 hf.slots).imp ne_of_lt) ha hb h

theorem Floor.put_pairwise (h : f.roll.Pairwise (fun a b => a.slot < b.slot)) (e : Entry) :
    (f.put e).Pairwise (fun a b => a.slot < b.slot) := by
  have hslot : ∀ x : Entry, (if x.slot = e.slot then e else x).slot = x.slot := fun x => by
    split
    · next hx => exact hx.symm
    · rfl
  refine List.pairwise_map.2 (h.imp ?_)
  intro a b hab
  rwa [hslot, hslot]

theorem Floor.mem_put {e' : Entry} (he : e ∈ f.roll) (hslot : e'.slot = e.slot) :
    x ∈ f.put e' ↔ x = e' ∨ (x ∈ f.roll ∧ x.slot ≠ e.slot) := by
  unfold Floor.put
  rw [List.mem_map, hslot]
  constructor
  · rintro ⟨y, hy, rfl⟩
    split
    · exact .inl rfl
    · next hne => exact .inr ⟨hy, hne⟩
  · rintro (rfl | ⟨hx, hne⟩)
    · exact ⟨e, he, if_pos rfl⟩
    · exact ⟨x, hx, if_neg hne⟩

/-- With slots in order, one entry replaced is a list split at the entry. -/
theorem Floor.put_split (hf : f.Agrees) {e' : Entry} (hslot : e'.slot = e.slot) {as bs : List Entry} (hsplit : f.roll = as ++ e :: bs) :
    f.put e' = as ++ e' :: bs := by
  have hdistinct : (f.roll.map (·.slot)).Nodup := (List.pairwise_map.2 hf.slots).imp ne_of_lt
  rw [hsplit, List.map_append, List.map_cons, List.nodup_middle, List.nodup_cons] at hdistinct
  have hother : ∀ x, x ∈ as ∨ x ∈ bs → x.slot ≠ e.slot := fun x hx h =>
    hdistinct.1 (h ▸ List.mem_append.2 (hx.imp (List.mem_map_of_mem ·) (List.mem_map_of_mem ·)))
  have hkept : ∀ xs : List Entry, (∀ x ∈ xs, x.slot ≠ e.slot) → xs.map (fun x => if x.slot = e.slot then e' else x) = xs :=
    fun xs hxs => (List.map_congr_left (fun x hx => if_neg (hxs x hx))).trans (List.map_id xs)
  unfold Floor.put
  rw [hsplit, hslot, List.map_append, List.map_cons, if_pos rfl, hkept as (fun x hx => hother x (.inl hx)),
    hkept bs (fun x hx => hother x (.inr hx))]

/-- One reservation more or less is one more or less of those that name an entry. -/
theorem Floor.countP_put (hf : f.Agrees) {e' : Entry} (he : e ∈ f.roll) (hslot : e'.slot = e.slot) (d : DevId) :
    (f.put e').countP (fun x => x.place.names d) =
      f.roll.countP (fun x => x.place.names d) + (e'.place.names d).toNat - (e.place.names d).toNat := by
  obtain ⟨as, bs, hsplit⟩ := List.append_of_mem he
  rw [Floor.put_split hf hslot hsplit, hsplit, List.countP_append, List.countP_append, List.countP_cons, List.countP_cons]
  cases e.place.names d <;> cases e'.place.names d <;> simp <;> omega

/-! ### What keeps the floor in agreement -/

/-- The lot of one slot moves, on at most one handler, and the release queue follows it: everything still agrees. -/
theorem Floor.Agrees.move (hf : f.Agrees) {e' : Entry} (he : e ∈ f.roll) (hslot : e'.slot = e.slot) (hroll : g.roll = f.put e')
    (h : HandlerId) (hold : ∀ i σ, e.place.seat = some (i, σ) → i = h) (hnew : ∀ i σ, e'.place.seat = some (i, σ) → i = h)
    (helse : ∀ i, i ≠ h → g.loads i = f.loads i)
    (hkeep : ∀ σ k, k ≠ e.slot → (g.loads h σ = some k ↔ f.loads h σ = some k))
    (hseat : ∀ σ, g.loads h σ = some e.slot ↔ e'.place.seat = some (h, σ))
    (hhold : e'.onHold = true → e'.place = .held ∨ ∃ i, e'.place = .draining i)
    (hlength : g.queue.length ≤ 32) (hnodup : g.queue.Nodup) (hqueue : ∀ k, k ≠ e.slot → (k ∈ g.queue ↔ k ∈ f.queue))
    (hreleased : e.slot ∈ g.queue ↔ e'.place = .released) : g.Agrees := by
  have hmem : ∀ x, x ∈ g.roll ↔ x = e' ∨ (x ∈ f.roll ∧ x.slot ≠ e.slot) := fun x => by
    rw [hroll]
    exact Floor.mem_put he hslot
  have hat : ∀ (k : Slot) (p : Entry → Prop), (∃ x ∈ g.roll, x.slot = k ∧ p x) ↔
      if k = e.slot then p e' else ∃ x ∈ f.roll, x.slot = k ∧ p x := fun k p => by
    split
    · next hk =>
      refine ⟨?_, fun hp => ⟨e', (hmem e').2 (.inl rfl), hslot.trans hk.symm, hp⟩⟩
      rintro ⟨x, hx, rfl, hp⟩
      rcases (hmem x).1 hx with rfl | ⟨-, hne⟩
      · exact hp
      · exact absurd hk hne
    · next hk =>
      refine ⟨?_, ?_⟩
      · rintro ⟨x, hx, rfl, hp⟩
        rcases (hmem x).1 hx with rfl | ⟨hx, -⟩
        · exact absurd hslot hk
        · exact ⟨x, hx, rfl, hp⟩
      · rintro ⟨x, hx, rfl, hp⟩
        exact ⟨x, (hmem x).2 (.inr ⟨hx, hk⟩), rfl, hp⟩
  refine ⟨hroll ▸ Floor.put_pairwise hf.slots e', fun i σ k => ?_, fun x hx => ?_, hlength, hnodup, fun k => ?_⟩
  · rw [hat]
    split
    · next hk =>
      subst hk
      by_cases hi : i = h
      · subst hi
        exact hseat σ
      · rw [helse i hi, hf.seats]
        refine ⟨?_, fun hs => absurd (hnew i σ hs) hi⟩
        rintro ⟨x, hx, hxe, hs⟩
        rw [hf.unique hx he hxe] at hs
        exact absurd (hold i σ hs) hi
    · next hk =>
      rw [← hf.seats]
      by_cases hi : i = h
      · subst hi
        exact hkeep σ k hk
      · rw [helse i hi]
  · rcases (hmem x).1 hx with rfl | ⟨hx, -⟩
    · exact hhold
    · exact hf.holds x hx
  · rw [hat]
    split
    · next hk => rw [hk]; exact hreleased
    · next hk => rw [hqueue k hk]; exact hf.queued k

/-- A seat taken by a lot is the one its entry names. -/
theorem Floor.Agrees.load_slot (hf : f.Agrees) (he : e ∈ f.roll) {h : HandlerId} {σ : Seat} :
    f.loads h σ = some e.slot ↔ e.place.seat = some (h, σ) := by
  rw [hf.seats]
  refine ⟨?_, fun hs => ⟨e, he, rfl, hs⟩⟩
  rintro ⟨x, hx, hxe, hs⟩
  rwa [← hf.unique hx he hxe]

theorem Floor.Agrees.queue_slot (hf : f.Agrees) (he : e ∈ f.roll) : e.slot ∈ f.queue ↔ e.place = .released := by
  rw [hf.queued]
  refine ⟨?_, fun hs => ⟨e, he, rfl, hs⟩⟩
  rintro ⟨x, hx, hxe, hs⟩
  rwa [← hf.unique hx he hxe]

/-- A lot that is on no handler before and after, with the cells as they are. -/
theorem Floor.Agrees.moveFree (hf : f.Agrees) {e' : Entry} (he : e ∈ f.roll) (hslot : e'.slot = e.slot) (hroll : g.roll = f.put e')
    (hold : e.place.seat = none) (hnew : e'.place.seat = none) (hloads : g.loads = f.loads)
    (hhold : e'.onHold = true → e'.place = .held)
    (hlength : g.queue.length ≤ 32) (hnodup : g.queue.Nodup) (hqueue : ∀ k, k ≠ e.slot → (k ∈ g.queue ↔ k ∈ f.queue))
    (hreleased : e.slot ∈ g.queue ↔ e'.place = .released) : g.Agrees := by
  refine hf.move he hslot hroll 0 (fun i σ h => ?_) (fun i σ h => ?_) (fun i _ => by rw [hloads]) (fun σ k _ => by rw [hloads])
    (fun σ => ?_) (fun h => .inl (hhold h)) hlength hnodup hqueue hreleased
  · rw [hold] at h; cases h
  · rw [hnew] at h; cases h
  · rw [hloads, hf.load_slot he, hold, hnew]

end Sys2Proof.Machine
end

section
/-! SUPPORT. What leaves the floor as it is, and what moves one lot on it: a move keeps the floor consistent and its pending
counts right. -/

namespace Sys2Proof.Machine

/-- From a consistent floor the change leads to a consistent one, and keeps the pending counts under a condition. -/
def Leads (P : Prop) (s t : State) : Prop :=
  s.floor.Consistent → t.floor.Consistent ∧ (P → s.floor.Counted → t.floor.Counted)

variable {P : Prop} {s t u : State}

theorem Leads.trans (a : Leads P s t) (b : Leads P t u) : Leads P s u := fun hs =>
  ⟨(b (a hs).1).1, fun hP hc => (b (a hs).1).2 hP ((a hs).2 hP hc)⟩

theorem Leads.of_floor (h : t.floor = s.floor) : Leads P s t := fun hs => by
  rw [h]
  exact ⟨hs, fun _ hc => hc⟩

theorem Leads.refl (s : State) : Leads P s s := .of_floor rfl

theorem State.Consistent.floor (h : s.Consistent) : s.floor.Consistent := s.consistent_iff.1 h

/-! ### What the floor does not depend on -/

theorem State.floor_congr (hlots : t.lots = s.lots) (hcells : ∀ h : HandlerId, t.handlers[h].cell.load = s.handlers[h].cell.load)
    (hqueue : t.releaseQueue = s.releaseQueue) (hdeviations : t.deviations = s.deviations) : t.floor = s.floor := by
  unfold State.floor
  rw [hlots, hqueue, hdeviations]
  exact congrArg (fun c => Floor.mk _ c _ _) (funext hcells)

variable (s)

theorem State.floor_updHandler (h : HandlerId) {f : Handler → Handler}
    (hf : (f s.handlers[h]).cell.load = s.handlers[h].cell.load) : (s.updHandler h f).floor = s.floor := by
  refine State.floor_congr rfl (fun i => ?_) rfl rfl
  by_cases hi : i = h
  · subst hi
    rw [State.updHandler_self, hf]
  · rw [State.updHandler_ne s (Ne.symm hi)]

theorem State.floor_updLot (k : Slot) {f : Lot → Lot} (hf : ∀ x, (f x).entry = x.entry) : (s.updLot k f).floor = s.floor := by
  have hroll : (s.updLot k f).lots.map Lot.entry = s.lots.map Lot.entry := by
    rw [State.updLot_lots, List.map_map]
    refine List.map_congr_left (fun x _ => ?_)
    rw [Function.comp]
    split
    · exact hf x
    · rfl
  exact congrArg (fun r => { s.floor with roll := r }) hroll

theorem State.floor_markBound (h : HandlerId) (k : AttentionKind) (x : BitVec 16) : (s.markBound h k x).floor = s.floor := by
  obtain ⟨ss, hss⟩ := s.markBound_frame h k x
  rw [hss]
  rfl

theorem State.floor_markRoles (rs : List Role) (k : AttentionKind) (x : BitVec 16) : (s.markRoles rs k x).floor = s.floor := rfl

theorem State.floor_markComplete (l : Lot) : (s.markComplete l).floor = s.floor := by
  obtain ⟨ss, hss⟩ := s.markComplete_frame l
  rw [hss]
  rfl

theorem State.floor_updTester (i : TesterId) (f : Tester → Tester) : (s.updTester i f).floor = s.floor := rfl

theorem State.floor_updStation (i : StationId) (f : Station → Station) : (s.updStation i f).floor = s.floor := rfl

theorem State.floor_startLoad (i : TesterId) (p : Program) (n : Nat) : (s.startLoad i p n).floor = s.floor := by
  obtain ⟨ts, ss, h⟩ := s.startLoad_frame i p n
  rw [h]
  rfl

theorem State.floor_beginStaging (i : TesterId) (p : Program) : (s.beginStaging i p).floor = s.floor := by
  obtain ⟨ts, ss, h⟩ := s.beginStaging_frame i p
  rw [h]
  rfl

theorem State.floor_markStagingFault (i : TesterId) : (s.markStagingFault i).floor = s.floor := by
  obtain ⟨ss, h⟩ := s.markStagingFault_frame i
  rw [h]
  rfl

theorem State.floor_applySetup (h : HandlerId) (k : Slot) : (s.applySetup h k).floor = s.floor := by
  unfold State.applySetup
  split
  · rfl
  · next l _ =>
    have target : (s.updHandler h (fun x => { x with
        target := some ⟨(s.stepOf l).setpoint, (s.stepOf l).soak⟩, requiredKit := some (s.stepOf l).kit
        thermal := thermalAfter x ⟨(s.stepOf l).setpoint, (s.stepOf l).soak⟩ })).floor = s.floor := s.floor_updHandler h rfl
    dsimp only
    split <;> split <;> simp only [State.floor_markBound, target]

theorem Cell.load_ready (k : Slot) : (Cell.ready k).load = (Cell.preparing k).load := by
  funext σ
  cases σ <;> rfl

theorem State.floor_readyCheck (h : HandlerId) : (s.readyCheck h).floor = s.floor := by
  unfold State.readyCheck
  split
  · next k hk =>
    split
    · rw [State.floor_markBound]
      exact s.floor_updHandler h (by rw [hk]; exact Cell.load_ready k)
    · rfl
  · next k hk =>
    split
    · rfl
    · exact s.floor_updHandler h (by rw [hk]; exact (Cell.load_ready k).symm)
  · rfl

variable {s}

/-! ### One lot moves -/

theorem State.floor_putLot (x : Lot) : (s.putLot x).floor.roll = s.floor.put x.entry := by
  show (s.lots.map _).map Lot.entry = (s.lots.map Lot.entry).map _
  rw [List.map_map, List.map_map]
  refine List.map_congr_left (fun y _ => ?_)
  show (if y.slot = x.slot then x else y).entry = if y.slot = x.slot then x.entry else y.entry
  split <;> rfl

theorem State.entry_mem {k : Slot} {l : Lot} (hl : s.lot? k = some l) : l.entry ∈ s.floor.roll :=
  List.mem_map_of_mem (State.lot?_mem hl)

/-- One lot of the floor changes its record, one handler its cell at most, and the pending counts follow. -/
theorem Leads.moveLot {l x : Lot} (hl : s.lot? l.slot = some l) (hx : x.slot = l.slot) (hlots : t.lots = (s.putLot x).lots)
    (h : HandlerId) (hold : ∀ i σ, l.state.place.seat = some (i, σ) → i = h) (hnew : ∀ i σ, x.state.place.seat = some (i, σ) → i = h)
    (helse : ∀ i : HandlerId, i ≠ h → t.handlers[i].cell.load = s.handlers[i].cell.load)
    (hkeep : ∀ σ k, k ≠ l.slot → (t.handlers[h].cell.load σ = some k ↔ s.handlers[h].cell.load σ = some k))
    (hseat : ∀ σ, t.handlers[h].cell.load σ = some l.slot ↔ x.state.place.seat = some (h, σ))
    (hhold : x.holds ≠ [] → x.state.place = .held ∨ ∃ i, x.state.place = .draining i)
    (hqueue : t.releaseQueue = s.releaseQueue) (hreleased : x.state.place = .released ↔ l.state.place = .released)
    (hwaiting : x.state.place = .waiting → s.floor.queue.length = 32)
    (hpending : P → ∀ d : DevId, t.floor.pending d =
      s.floor.pending d + (x.state.place.names d).toNat - (l.state.place.names d).toNat) : Leads P s t := by
  rintro ⟨hf, hfull⟩
  have he : l.entry ∈ s.floor.roll := State.entry_mem hl
  have hslot : x.entry.slot = l.entry.slot := hx
  have hroll : t.floor.roll = s.floor.put x.entry := by
    rw [← State.floor_putLot]
    exact congrArg (List.map Lot.entry) hlots
  have htq : t.floor.queue = s.floor.queue := congrArg (List.map _) hqueue
  refine ⟨⟨hf.move he hslot hroll h hold hnew helse hkeep hseat (fun hon => hhold (x.entry_onHold.1 hon)) ?_ ?_ ?_ ?_, ?_⟩, ?_⟩
  · rw [htq]; exact hf.length
  · rw [htq]; exact hf.nodup
  · intro k _; rw [htq]
  · rw [htq, hf.queue_slot he]; exact hreleased.symm
  · rintro ⟨e, hmem, hwaits⟩
    rw [htq]
    rw [hroll, Floor.mem_put he hslot] at hmem
    rcases hmem with rfl | ⟨hmem, -⟩
    · exact hwaiting hwaits
    · exact hfull ⟨e, hmem, hwaits⟩
  · intro hP hc d
    rw [hroll, Floor.countP_put hf he hslot, hpending hP, hc d]
    rfl

theorem Place.names_of_free {p : Place} (h : p.seat = none) (d : DevId) : p.names d = false := by
  cases p with
  | reserved => cases h
  | _ => rfl

/-- A lot that is on no handler, before and after, with cells, release queue and pending counts as they are. -/
theorem Leads.moveFree {l x : Lot} (hl : s.lot? l.slot = some l) (hx : x.slot = l.slot) (hlots : t.lots = (s.putLot x).lots)
    (hold : l.state.place.seat = none) (hnew : x.state.place.seat = none) (hhandlers : t.handlers = s.handlers)
    (hhold : x.holds ≠ [] → x.state.place = .held)
    (hqueue : t.releaseQueue = s.releaseQueue) (hreleased : x.state.place = .released ↔ l.state.place = .released)
    (hwaiting : x.state.place = .waiting → s.floor.queue.length = 32) (hpending : t.deviations = s.deviations) : Leads P s t := by
  intro hs
  refine Leads.moveLot hl hx hlots 0 (fun i σ h => ?_) (fun i σ h => ?_) (fun i _ => by rw [hhandlers]) (fun σ k _ => by rw [hhandlers])
    (fun σ => ?_) (fun h => .inl (hhold h)) hqueue hreleased hwaiting (fun _ d => ?_) hs
  · rw [hold] at h; cases h
  · rw [hnew] at h; cases h
  · rw [hhandlers, hnew, ← hold]
    exact hs.1.load_slot (State.entry_mem hl)
  · rw [Place.names_of_free hold, Place.names_of_free hnew]
    show ((t.deviations[d]).map _).getD 0 = _
    rw [hpending]
    rfl

end Sys2Proof.Machine
end

section
/-! SUPPORT. The moves of a lot on a handler: reserved, cancelled, begun, drained, gone; and a reason placed on a lot. -/

namespace Sys2Proof.Machine

variable {P : Prop} {s t : State} {l x : Lot} {h : HandlerId}

theorem Leads.thenFloor {u : State} (a : Leads P s t) (hu : u.floor = t.floor) : Leads P s u := a.trans (.of_floor hu)

/-! ### Cells of a consistent floor -/

theorem State.Consistent.cell_of_running (hs : s.Consistent) (hl : s.lot? l.slot = some l) {r : Resolved}
    (hstate : l.state = .running h r) : ∃ q, s.handlers[h].cell = .running l.slot q := by
  have hcell := hs.lotOnCell l (State.lot?_mem hl)
  rwa [State.LotOnCell, hstate] at hcell

theorem State.Consistent.cell_of_draining (hs : s.Consistent) (hl : s.lot? l.slot = some l) {r : Resolved} {c : HoldReason}
    (hstate : l.state = .draining h r c) : ∃ q, s.handlers[h].cell = .draining l.slot q := by
  have hcell := hs.lotOnCell l (State.lot?_mem hl)
  rwa [State.LotOnCell, hstate] at hcell

theorem State.Consistent.cell_of_reserved (hs : s.Consistent) (hl : s.lot? l.slot = some l) {w : Wait} {r : Resolved}
    (hstate : l.state = .reserved w h r) : s.handlers[h].cell.reserved = some l.slot := by
  have hcell := hs.lotOnCell l (State.lot?_mem hl)
  rwa [State.LotOnCell, hstate] at hcell

/-- The seats of a cell that hold a lot are the one its state names. -/
theorem State.Consistent.load_slot (hs : s.Consistent) (hl : s.lot? l.slot = some l) (h : HandlerId) (σ : Seat) :
    s.handlers[h].cell.load σ = some l.slot ↔ l.state.place.seat = some (h, σ) :=
  hs.floor.1.load_slot (State.entry_mem hl)

theorem Cell.load_current {c : Cell} {k : Slot} (h : c.load .running = some k ∨ c.load .draining = some k) : c.current = some k := by
  cases c with
  | running | draining => exact h.elim (by simp [Cell.load, Cell.current]) (by simp [Cell.load, Cell.current])
  | _ => exact h.elim nofun nofun

theorem Cell.load_dropReserved (c : Cell) :
    c.dropReserved.load .reserved = none ∧ c.dropReserved.load .running = c.load .running ∧
      c.dropReserved.load .draining = c.load .draining := by
  cases c <;> exact ⟨rfl, rfl, rfl⟩

theorem Cell.load_takeReserved {c : Cell} (hfree : c = .idle ∨ c.current.isSome = true) (k : Slot) :
    (c.takeReserved k).load .reserved = some k ∧ (c.takeReserved k).load .running = c.load .running ∧
      (c.takeReserved k).load .draining = c.load .draining := by
  rcases hfree with rfl | hcurrent
  · exact ⟨rfl, rfl, rfl⟩
  · cases c with
    | running | draining => exact ⟨rfl, rfl, rfl⟩
    | _ => cases hcurrent

/-! ### Pending counts -/

theorem State.pending_updPending {d : Option DevId} {f : Nat → Nat} (hdev : t.deviations = (s.updPending d f).deviations) (i : DevId) :
    t.floor.pending i =
      if d = some i then ((s.deviations[i]).map (fun e => f e.pending)).getD 0 else s.floor.pending i := by
  show ((t.deviations[i]).map _).getD 0 = _
  rw [hdev]
  cases d with
  | none => rfl
  | some j =>
    show (((s.updDeviation j _).deviations[i]).map _).getD 0 = _
    by_cases hj : j = i
    · subst hj
      rw [State.updDeviation_self, if_pos rfl, Option.map_map]
      rfl
    · rw [State.updDeviation_ne s hj, if_neg (fun h => hj (Option.some.inj h))]
      rfl

theorem Place.names_reserved (h : HandlerId) (d : Option DevId) (i : DevId) : (Place.reserved h d).names i = decide (d = some i) := by
  cases d with
  | none => rfl
  | some j => simp [Place.names]

theorem State.pending_same (hdev : t.deviations = s.deviations) (d : DevId) : t.floor.pending d = s.floor.pending d := by
  show ((t.deviations[d]).map _).getD 0 = _
  rw [hdev]
  rfl

/-- A pending count that falls by one where an entry is named. -/
theorem State.pending_less {d : Option DevId} (hdev : t.deviations = (s.updPending d (fun n => n - 1)).deviations) (i : DevId) :
    t.floor.pending i = s.floor.pending i - (decide (d = some i)).toNat := by
  rw [State.pending_updPending hdev]
  split
  · next hd =>
    show _ = ((s.deviations[i]).map _).getD 0 - _
    rw [decide_eq_true hd]
    cases s.deviations[i] <;> rfl
  · next hd => rw [decide_eq_false hd]; rfl

/-! ### Moves -/

/-- The reservation of a lot ends without its beginning: the lot is on no handler, the cell without reserved lot. -/
theorem Leads.unreserve (hl : s.lot? l.slot = some l) (hx : x.slot = l.slot) (hlots : t.lots = (s.putLot x).lots)
    {w : Wait} {r : Resolved} (hstate : l.state = .reserved w h r) (hplace : x.state.place = .held ∨ (x.state.place = .away ∧ x.holds = []))
    (helse : ∀ i : HandlerId, i ≠ h → t.handlers[i].cell = s.handlers[i].cell)
    (hcell : t.handlers[h].cell = s.handlers[h].cell.dropReserved) (hqueue : t.releaseQueue = s.releaseQueue)
    (hdev : t.deviations = (s.updPending r.deviation (fun n => n - 1)).deviations) : Leads P s t := by
  intro hs
  have hc := s.consistent_iff.2 hs
  have hseat : l.state.place.seat = some (h, .reserved) := by rw [hstate]; rfl
  have hfree : x.state.place.seat = none := by rcases hplace with hp | ⟨hp, -⟩ <;> rw [hp] <;> rfl
  have hload := hc.load_slot hl h
  obtain ⟨hreserved, hrunning, hdraining⟩ := Cell.load_dropReserved s.handlers[h].cell
  refine Leads.moveLot hl hx hlots h (fun i σ hi => ?_) (fun i σ hi => ?_) (fun i hi => by rw [helse i hi]) (fun σ k hk => ?_)
    (fun σ => ?_) (fun hon => ?_) hqueue ?_ (fun hw => ?_) (fun _ d => ?_) hs
  · rw [hseat] at hi; cases hi; rfl
  · rw [hfree] at hi; cases hi
  · rw [hcell]
    cases σ with
    | reserved =>
      rw [hreserved, (hload .reserved).2 hseat]
      simp [Ne.symm hk]
    | running => rw [hrunning]
    | draining => rw [hdraining]
  · rw [hcell, hfree]
    cases σ with
    | reserved => rw [hreserved]; simp
    | running => rw [hrunning, hload, hseat]; simp
    | draining => rw [hdraining, hload, hseat]; simp
  · rcases hplace with hp | ⟨-, hp⟩
    · exact .inl hp
    · exact absurd hp hon
  · rw [hstate]
    rcases hplace with hp | ⟨hp, -⟩ <;> rw [hp] <;> simp [LotState.place]
  · rcases hplace with hp | ⟨hp, -⟩ <;> rw [hp] at hw <;> cases hw
  · rw [State.pending_less hdev, Place.names_of_free hfree, hstate]
    show _ = s.floor.pending d + false.toNat - ((Place.reserved h r.deviation).names d).toNat
    rw [Place.names_reserved]
    rfl

theorem State.Consistent.no_holds (hs : s.Consistent) (hl : s.lot? l.slot = some l) (hheld : l.state.name ≠ .held)
    (hdraining : l.state.name ≠ .draining) : l.holds = [] := by
  by_contra hne
  rcases hs.holds l (State.lot?_mem hl) hne with h | h
  · exact hheld h
  · exact hdraining h

theorem Leads.cancelReservation (k : Slot) (held : Bool) : Leads P s (s.cancelReservation k held) := by
  intro hs
  have hc := s.consistent_iff.2 hs
  cases hl : s.lot? k with
  | none =>
    rw [State.cancelReservation, hl]
    exact Leads.refl s hs
  | some l =>
    obtain rfl : l.slot = k := State.lot?_slot hl
    by_cases hreserved : ∃ w h r, l.state = .reserved w h r
    · obtain ⟨w, h, r, hstate⟩ := hreserved
      have hholds : l.holds = [] := by
        refine hc.no_holds hl ?_ ?_ <;> rw [hstate] <;> simp [LotState.name]
      rw [hc.slots.cancelReservation_eq hl hstate held]
      refine Leads.thenFloor ?_ (State.floor_markBound _ _ _ _) hs
      refine Leads.unreserve (x := { l with state := if held then .held else .queued w }) hl rfl rfl hstate ?_
        (fun i hi => ?_) ?_ rfl rfl
      · cases held with
        | true => exact .inl rfl
        | false => exact .inr ⟨rfl, hholds⟩
      · exact congrArg Handler.cell (set_getElem_ne _ (Ne.symm hi) _)
      · exact congrArg Handler.cell (set_getElem_self _ _ _)
    · rw [State.cancelReservation, hl]
      dsimp only
      split
      · next w h r hstate => exact absurd ⟨w, h, r, hstate⟩ hreserved
      · exact Leads.refl s hs

theorem State.deviation_of_hasCapacity {r : Resolved} (hcapacity : s.hasCapacity r = true) {d : DevId} (hd : r.deviation = some d) :
    s.deviations[d].isSome = true := by
  rw [State.hasCapacity, hd] at hcapacity
  cases he : s.deviations[d] with
  | none => simp [he] at hcapacity
  | some e => rfl

/-- A pending count that rises by one where an entry is named. -/
theorem State.pending_more {r : Resolved} (hcapacity : s.hasCapacity r = true)
    (hdev : t.deviations = (s.updPending r.deviation (fun n => n + 1)).deviations) (i : DevId) :
    t.floor.pending i = s.floor.pending i + (decide (r.deviation = some i)).toNat := by
  rw [State.pending_updPending hdev]
  split
  · next hd =>
    obtain ⟨e, he⟩ := Option.isSome_iff_exists.1 (State.deviation_of_hasCapacity hcapacity hd)
    show _ = ((s.deviations[i]).map _).getD 0 + _
    rw [decide_eq_true hd, he]
    rfl
  · next hd => rw [decide_eq_false hd]; rfl

/-- A queued lot becomes the reserved lot of a cell that is IDLE, or that runs a lot and has none reserved. -/
theorem Leads.becomesReserved (hl : s.lot? l.slot = some l) (hx : x.slot = l.slot) (hlots : t.lots = (s.putLot x).lots) {w v : Wait}
    {r : Resolved} (hstate : l.state = .queued w) (hreserved : x.state = .reserved v h r) (hholds : x.holds = l.holds)
    (hcapacity : s.hasCapacity r = true)
    (hfree : s.handlers[h].cell = .idle ∨ ∃ k, s.handlers[h].cell = .running k none)
    (helse : ∀ i : HandlerId, i ≠ h → t.handlers[i].cell = s.handlers[i].cell)
    (hcell : t.handlers[h].cell = s.handlers[h].cell.takeReserved l.slot) (hqueue : t.releaseQueue = s.releaseQueue)
    (hdev : t.deviations = (s.updPending r.deviation (fun n => n + 1)).deviations) : Leads P s t := by
  intro hs
  have hc := s.consistent_iff.2 hs
  have hseat : l.state.place.seat = none := by rw [hstate]; rfl
  have hload := hc.load_slot hl h
  obtain ⟨htaken, hrunning, hdraining⟩ := Cell.load_takeReserved (c := s.handlers[h].cell) (k := l.slot)
    (hfree.imp id (fun ⟨k, hk⟩ => by rw [hk]; rfl))
  have hnone : s.handlers[h].cell.load .reserved = none := by
    rcases hfree with hk | ⟨k, hk⟩ <;> rw [hk] <;> rfl
  refine Leads.moveLot hl hx hlots h (fun i σ hi => ?_) (fun i σ hi => ?_) (fun i hi => by rw [helse i hi]) (fun σ k hk => ?_)
    (fun σ => ?_) (fun hon => ?_) hqueue ?_ (fun hw => ?_) (fun _ d => ?_) hs
  · rw [hseat] at hi; cases hi
  · rw [hreserved] at hi; cases hi; rfl
  · rw [hcell]
    cases σ with
    | reserved => rw [htaken, hnone]; simp [Ne.symm hk]
    | running => rw [hrunning]
    | draining => rw [hdraining]
  · rw [hcell, hreserved]
    cases σ with
    | reserved => rw [htaken]; simp [LotState.place, Place.seat]
    | running => rw [hrunning, hload, hseat]; simp [LotState.place, Place.seat]
    | draining => rw [hdraining, hload, hseat]; simp [LotState.place, Place.seat]
  · refine absurd (hc.no_holds hl ?_ ?_) (hholds ▸ hon) <;> rw [hstate] <;> simp [LotState.name]
  · rw [hstate, hreserved]; simp [LotState.place]
  · rw [hreserved] at hw; cases hw
  · rw [State.pending_more hcapacity hdev, hstate, hreserved]
    show _ = s.floor.pending d + ((Place.reserved h r.deviation).names d).toNat - false.toNat
    rw [Place.names_reserved]
    rfl

theorem Leads.reserve (hl : s.lot? l.slot = some l) {w : Wait} (hstate : l.state = .queued w)
    (hcapacity : s.hasCapacity (s.resolve l) = true) (hfree : s.handlers[h].cell = .idle ∨ ∃ k, s.handlers[h].cell = .running k none) :
    Leads P s (s.reserve h l) := by
  intro hs
  have hc := s.consistent_iff.2 hs
  have moved : Leads P s (((s.setLotState l.slot (.reserved w h (s.resolve l))).updPending (s.resolve l).deviation
      (fun n => n + 1)).updHandler h (fun x => { x with cell := x.cell.takeReserved l.slot })) := by
    have hput := hc.slots.setLotState_eq hl (.reserved w h (s.resolve l))
    have hdev : (s.putLot { l with state := .reserved w h (s.resolve l) }).deviations = s.deviations := rfl
    rw [hput, State.updPending_eq, State.updPending_congr hdev]
    refine Leads.becomesReserved (x := { l with state := .reserved w h (s.resolve l) }) hl rfl rfl hstate rfl rfl hcapacity hfree
      (fun i hi => ?_) ?_ rfl rfl
    · exact congrArg Handler.cell (State.updHandler_ne _ (Ne.symm hi) _)
    · exact congrArg Handler.cell (State.updHandler_self _ _ _)
  have setUp : ∀ u : State, Leads P s u →
      Leads P s (if s.handlers[h].cell.current.isSome then u else (u.applySetup h l.slot).readyCheck h) := fun u hu => by
    split
    · exact hu
    · exact (hu.thenFloor (State.floor_applySetup _ _ _)).thenFloor (State.floor_readyCheck _ _)
  unfold State.reserve
  rw [hstate]
  dsimp only
  refine setUp _ ?_ hs
  split
  · exact moved.thenFloor (State.floor_beginStaging _ _ _)
  · exact moved

/-- The current lot of a handler starts to drain, its cell with it. -/
theorem Leads.drains (hl : s.lot? l.slot = some l) (hx : x.slot = l.slot) (hlots : t.lots = (s.putLot x).lots) {r q : Resolved}
    {c : HoldReason} (hrunning : l.state = .running h r) (hdraining : x.state = .draining h q c)
    (helse : ∀ i : HandlerId, i ≠ h → t.handlers[i].cell = s.handlers[i].cell)
    (hcell : t.handlers[h].cell = s.handlers[h].cell.drain) (hqueue : t.releaseQueue = s.releaseQueue)
    (hdev : t.deviations = s.deviations) : Leads P s t := by
  intro hs
  have hc := s.consistent_iff.2 hs
  obtain ⟨k, hk⟩ := hc.cell_of_running hl hrunning
  have hreserved : k ≠ some l.slot := fun hk' => by
    have := (hc.load_slot hl h .reserved).1 (by rw [hk]; exact hk')
    rw [hrunning] at this
    cases this
  have hdrain : t.handlers[h].cell = .draining l.slot k := by rw [hcell, hk]; rfl
  refine Leads.moveLot hl hx hlots h (fun i σ hi => ?_) (fun i σ hi => ?_) (fun i hi => by rw [helse i hi]) (fun σ j hj => ?_)
    (fun σ => ?_) (fun _ => .inr ⟨h, by rw [hdraining]; rfl⟩) hqueue ?_ (fun hw => ?_) (fun _ d => ?_) hs
  · rw [hrunning] at hi; cases hi; rfl
  · rw [hdraining] at hi; cases hi; rfl
  · rw [hdrain, hk]
    cases σ <;> simp [Cell.load, Ne.symm hj]
  · rw [hdrain, hdraining]
    cases σ <;> simp [Cell.load, LotState.place, Place.seat, hreserved]
  · rw [hrunning, hdraining]; simp [LotState.place]
  · rw [hdraining] at hw; cases hw
  · rw [State.pending_same hdev, hrunning, hdraining]
    rfl

/-- A lot that stays where it is, but for more reasons in its hold set. -/
theorem Leads.stays (hl : s.lot? l.slot = some l) (hx : x.slot = l.slot) (hlots : t.lots = (s.putLot x).lots)
    (hstate : x.state = l.state) (hhold : x.holds ≠ [] → l.state.name = .held ∨ l.state.name = .draining)
    (hhandlers : t.handlers = s.handlers) (hqueue : t.releaseQueue = s.releaseQueue) (hdev : t.deviations = s.deviations) :
    Leads P s t := by
  intro hs
  have hc := s.consistent_iff.2 hs
  have hmem : l.entry ∈ s.floor.roll := State.entry_mem hl
  have general : ∀ h : HandlerId, (∀ i σ, l.state.place.seat = some (i, σ) → i = h) → Leads P s t := fun h hold => by
    refine Leads.moveLot hl hx hlots h hold (by rwa [hstate]) (fun i _ => by rw [hhandlers]) (fun σ k _ => by rw [hhandlers])
      (fun σ => ?_) (fun hon => ?_) hqueue (by rw [hstate]) (fun hw => ?_) (fun _ d => ?_)
    · rw [hhandlers, hstate]; exact hc.load_slot hl h σ
    · rw [hstate, LotState.place_held, LotState.place_draining]; exact hhold hon
    · exact hs.2 ⟨l.entry, hmem, by rw [← hw, hstate]; rfl⟩
    · rw [State.pending_same hdev, hstate]; omega
  cases hseat : l.state.place.seat with
  | none => exact general 0 (fun i σ hi => by rw [hseat] at hi; cases hi) hs
  | some a => exact general a.1 (fun i σ hi => by rw [hseat] at hi; cases hi; rfl) hs

/-- The current lot of a handler leaves it: the cell keeps its reserved lot alone. -/
theorem Leads.leaves (hl : s.lot? l.slot = some l) (hx : x.slot = l.slot) (hlots : t.lots = (s.putLot x).lots)
    (hcurrent : s.handlers[h].cell.current = some l.slot)
    (hplace : x.state.place = .held ∨ (x.state.place = .away ∧ x.holds = []))
    (helse : ∀ i : HandlerId, i ≠ h → t.handlers[i].cell = s.handlers[i].cell)
    (hcell : t.handlers[h].cell.load .reserved = s.handlers[h].cell.reserved ∧ t.handlers[h].cell.load .running = none ∧
      t.handlers[h].cell.load .draining = none)
    (hqueue : t.releaseQueue = s.releaseQueue) (hdev : t.deviations = s.deviations) : Leads P s t := by
  intro hs
  have hc := s.consistent_iff.2 hs
  obtain ⟨hres, hrun, hdrain⟩ := hcell
  have hseat : ∃ σ, σ ≠ .reserved ∧ l.state.place.seat = some (h, σ) := by
    cases hk : s.handlers[h].cell with
    | running k q =>
      rw [hk] at hcurrent
      refine ⟨.running, nofun, (hc.load_slot hl h .running).1 ?_⟩
      rw [hk]; exact hcurrent
    | draining k q =>
      rw [hk] at hcurrent
      refine ⟨.draining, nofun, (hc.load_slot hl h .draining).1 ?_⟩
      rw [hk]; exact hcurrent
    | _ => rw [hk] at hcurrent; cases hcurrent
  obtain ⟨σ₀, hne, hseat⟩ := hseat
  have hfree : x.state.place.seat = none := by rcases hplace with hp | ⟨hp, -⟩ <;> rw [hp] <;> rfl
  have other : ∀ {k}, s.handlers[h].cell.current = some k → k = l.slot := fun {k} hk => Option.some.inj (hk.symm.trans hcurrent)
  have hgone : l.state.place ≠ .released := fun hp => by rw [hp] at hseat; cases hseat
  refine Leads.moveLot hl hx hlots h (fun i σ hi => ?_) (fun i σ hi => ?_) (fun i hi => by rw [helse i hi]) (fun σ k hk => ?_)
    (fun σ => ?_) (fun hon => ?_) hqueue ?_ (fun hw => ?_) (fun _ d => ?_) hs
  · rw [hseat] at hi; cases hi; rfl
  · rw [hfree] at hi; cases hi
  · cases σ with
    | reserved => rw [hres, ← Cell.load_reserved]
    | running =>
      rw [hrun]
      exact ⟨nofun, fun hload => absurd (other (Cell.load_current (.inl hload))) hk⟩
    | draining =>
      rw [hdrain]
      exact ⟨nofun, fun hload => absurd (other (Cell.load_current (.inr hload))) hk⟩
  · rw [hfree]
    cases σ with
    | reserved =>
      rw [hres, ← Cell.load_reserved, hc.load_slot hl, hseat]
      simp [hne]
    | running => rw [hrun]; simp
    | draining => rw [hdrain]; simp
  · rcases hplace with hp | ⟨-, hp⟩
    · exact .inl hp
    · exact absurd hp hon
  · refine ⟨fun hp => ?_, fun hp => absurd hp hgone⟩
    rw [hp] at hfree
    rcases hplace with hq | ⟨hq, -⟩ <;> rw [hq] at hp <;> cases hp
  · rcases hplace with hp | ⟨hp, -⟩ <;> rw [hp] at hw <;> cases hw
  · have hnames : l.state.place.names d = false := by
      cases hp : l.state.place with
      | reserved i e => rw [hp] at hseat; cases hseat; exact absurd rfl hne
      | _ => rfl
    rw [State.pending_same hdev, Place.names_of_free hfree, hnames]
    rfl

/-- The reserved lot of a READY handler begins. -/
theorem Leads.begins (hl : s.lot? l.slot = some l) (hx : x.slot = l.slot) (hlots : t.lots = (s.putLot x).lots)
    {w : Wait} {r q : Resolved} (hreserved : l.state = .reserved w h r) (hrunning : x.state = .running h q) (hholds : x.holds = l.holds)
    (hready : s.handlers[h].cell = .ready l.slot)
    (helse : ∀ i : HandlerId, i ≠ h → t.handlers[i].cell = s.handlers[i].cell)
    (hcell : t.handlers[h].cell = .running l.slot none) (hqueue : t.releaseQueue = s.releaseQueue)
    (hpending : P → ∀ d, t.floor.pending d = s.floor.pending d - (decide (r.deviation = some d)).toNat) : Leads P s t := by
  intro hs
  have hc := s.consistent_iff.2 hs
  refine Leads.moveLot hl hx hlots h (fun i σ hi => ?_) (fun i σ hi => ?_) (fun i hi => by rw [helse i hi]) (fun σ k hk => ?_)
    (fun σ => ?_) (fun hon => ?_) hqueue ?_ (fun hw => ?_) (fun hP d => ?_) hs
  · rw [hreserved] at hi; cases hi; rfl
  · rw [hrunning] at hi; cases hi; rfl
  · rw [hcell, hready]
    cases σ <;> simp [Cell.load, Ne.symm hk]
  · rw [hcell, hrunning]
    cases σ <;> simp [Cell.load, LotState.place, Place.seat]
  · refine absurd (hc.no_holds hl ?_ ?_) (hholds ▸ hon) <;> rw [hreserved] <;> simp [LotState.name]
  · rw [hreserved, hrunning]; simp [LotState.place]
  · rw [hrunning] at hw; cases hw
  · rw [hpending hP, hreserved, hrunning]
    show _ = s.floor.pending d + false.toNat - ((Place.reserved h r.deviation).names d).toNat
    rw [Place.names_reserved]
    rfl

end Sys2Proof.Machine
end

section
/-! SUPPORT. The release queue on a consistent floor: a lot released, recalled or collected, and the freed place offered. -/

namespace Sys2Proof.Machine

variable {P : Prop} {s t : State} {l x : Lot}

/-- A floor that agrees, and whose release queue has a place that a waiting lot is to take. -/
def Floor.Offers (f : Floor) : Prop := f.Agrees ∧ f.queue.length ≤ 31 ∧ (f.Waits → f.queue.length = 31)

theorem Floor.Counted.put {f g : Floor} {e e' : Entry} (hc : f.Counted) (hf : f.Agrees) (he : e ∈ f.roll) (hslot : e'.slot = e.slot)
    (hroll : g.roll = f.put e') (hold : e.place.seat = none) (hnew : e'.place.seat = none) (hpending : g.pending = f.pending) :
    g.Counted := fun d => by
  rw [hroll, Floor.countP_put hf he hslot, Place.names_of_free hold, Place.names_of_free hnew, hpending]
  exact hc d

/-- A lot on no handler is released to the tail of a queue that has room. -/
theorem State.released_agrees (hf : s.floor.Agrees) (hl : s.lot? l.slot = some l) (hx : x.slot = l.slot)
    (hlots : t.lots = (s.putLot x).lots) (hseat : l.state.place.seat = none) (hnot : l.state ≠ .released) (hstate : x.state = .released)
    (hholds : x.holds = []) (hhandlers : t.handlers = s.handlers) (hqueue : t.floor.queue = s.floor.queue ++ [l.slot])
    (hroom : s.floor.queue.length ≤ 31) (hdev : t.deviations = s.deviations) :
    t.floor.Agrees ∧ (s.floor.Counted → t.floor.Counted) := by
  have he : l.entry ∈ s.floor.roll := State.entry_mem hl
  have hroll : t.floor.roll = s.floor.put x.entry := by
    rw [← State.floor_putLot]
    exact congrArg (List.map Lot.entry) hlots
  have hfree : x.entry.place.seat = none := congrArg (fun y => y.place.seat) hstate
  have habsent : l.slot ∉ s.floor.queue := fun hmem =>
    hnot (LotState.place_released.1 ((hf.queue_slot he).1 hmem))
  refine ⟨hf.moveFree he (e' := x.entry) hx hroll hseat hfree (funext (fun h => ?_)) (fun hon => ?_) ?_ ?_ (fun k hk => ?_) ?_, fun hc => ?_⟩
  · show t.handlers[h].cell.load = _
    rw [hhandlers]
    rfl
  · exact absurd hholds (x.entry_onHold.1 hon)
  · rw [hqueue, List.length_append, List.length_singleton]
    omega
  · rw [hqueue]
    exact List.nodup_append.2 ⟨hf.nodup, List.nodup_singleton _, fun a ha b hb hab => by
      rw [List.mem_singleton.1 hb] at hab
      exact habsent (hab ▸ ha)⟩
  · rw [hqueue, List.mem_append, List.mem_singleton]
    exact or_iff_left hk
  · rw [hqueue]
    exact ⟨fun _ => congrArg LotState.place hstate, fun _ => List.mem_append.2 (.inr (List.mem_singleton.2 rfl))⟩
  · exact hc.put hf he hx hroll hseat hfree (funext (fun d => State.pending_same hdev d))

/-- The release of a waiting or endorsed lot. -/
theorem State.release_agrees (hf : s.floor.Agrees) (hl : s.lot? l.slot = some l) (hseat : l.state.place.seat = none)
    (hnot : l.state ≠ .released) (hholds : l.holds = []) (hroom : s.floor.queue.length ≤ 31) :
    (s.release l).floor.Agrees ∧ (s.floor.Counted → (s.release l).floor.Counted) ∧
      (s.release l).floor.queue.length = s.floor.queue.length + 1 := by
  have hs : s.SlotsInOrder := s.floor_slots.1 hf.slots
  have hqueue : (s.release l).floor.queue = s.floor.queue ++ [l.slot] := by
    rw [hs.release_eq hl]
    exact List.map_append
  obtain ⟨hagrees, hcounted⟩ := State.released_agrees (t := s.release l) (x := { l with state := .released }) hf hl rfl
    (by rw [hs.release_eq hl]; rfl) hseat hnot rfl hholds rfl hqueue hroom rfl
  refine ⟨hagrees, hcounted, ?_⟩
  rw [hqueue, List.length_append, List.length_singleton]

/-- A freed place is taken by the oldest waiting lot, and stays free only where none waits. -/
theorem State.offerPlace_consistent (h : s.floor.Offers) :
    s.offerPlace.floor.Consistent ∧ (s.floor.Counted → s.offerPlace.floor.Counted) := by
  obtain ⟨hf, hroom, hwaits⟩ := h
  cases hlist : s.waitingList with
  | nil =>
    rw [State.offerPlace_nil hlist]
    exact ⟨⟨hf, fun hw => absurd hlist (s.floor_waits.1 hw)⟩, id⟩
  | cons l ls =>
    have hwaiting : s.floor.Waits := s.floor_waits.2 (by rw [hlist]; exact List.cons_ne_nil _ _)
    obtain ⟨hmem, hwait⟩ := State.mem_waitingList (s := s) (l := l) (by rw [hlist]; exact List.mem_cons_self)
    have hplace : l.state.place = .waiting := LotState.place_waiting.2 hwait
    have hl : s.lot? l.slot = some l := State.lot?_of_mem (s.floor_slots.1 hf.slots) hmem
    have hnot : l.state ≠ .released := fun hr => by rw [hr] at hwait; cases hwait
    have hholds : l.holds = [] := by
      by_contra hne
      have := hf.holds l.entry (State.entry_mem hl) (l.entry_onHold.2 hne)
      rw [show l.entry.place = .waiting from hplace] at this
      rcases this with h | ⟨_, h⟩ <;> cases h
    obtain ⟨hagrees, hcounted, hlength⟩ := State.release_agrees hf hl (by rw [hplace]; rfl) hnot hholds hroom
    rw [State.offerPlace_cons hlist]
    exact ⟨⟨hagrees, fun _ => by rw [hlength, hwaits hwaiting]⟩, hcounted⟩

theorem filter_ne_length {k : Slot} {ks : List Slot} (hnodup : ks.Nodup) (hmem : k ∈ ks) :
    (ks.filter (fun j => j ≠ k)).length = ks.length - 1 := by
  have herase : ks.filter (fun j => j ≠ k) = ks.erase k := by
    rw [hnodup.erase_eq_filter]
    exact List.filter_congr (fun j _ => by rw [bne, beq_eq_decide]; exact decide_not)
  rw [herase, List.length_erase_of_mem hmem]

theorem State.filter_queue (s : State) (k : Slot) :
    (s.releaseQueue.filter (fun y => y.slot ≠ k)).map (·.slot) = s.floor.queue.filter (fun j => j ≠ k) := by
  show _ = (s.releaseQueue.map (·.slot)).filter _
  rw [List.filter_map]
  rfl

/-- A RELEASED lot is recalled to HELD: its place is offered. -/
theorem State.recalled_offers (hs : s.floor.Consistent) (hl : s.lot? l.slot = some l) (hreleased : l.state = .released)
    (hx : x.slot = l.slot) (hheld : x.state = .held) (hlots : t.lots = (s.putLot x).lots) (hhandlers : t.handlers = s.handlers)
    (hqueue : t.releaseQueue = s.releaseQueue.filter (fun y => y.slot ≠ l.slot)) (hdev : t.deviations = s.deviations) :
    t.floor.Offers ∧ (s.floor.Counted → t.floor.Counted) := by
  obtain ⟨hf, hfull⟩ := hs
  have he : l.entry ∈ s.floor.roll := State.entry_mem hl
  have hroll : t.floor.roll = s.floor.put x.entry := by
    rw [← State.floor_putLot]
    exact congrArg (List.map Lot.entry) hlots
  have hseat : l.entry.place.seat = none := congrArg (fun y => y.place.seat) hreleased
  have hfree : x.entry.place.seat = none := congrArg (fun y => y.place.seat) hheld
  have hplace : x.entry.place = .held := congrArg LotState.place hheld
  have htq : t.floor.queue = s.floor.queue.filter (fun j => j ≠ l.slot) := by
    rw [← State.filter_queue]
    exact congrArg (List.map _) hqueue
  have hpresent : l.slot ∈ s.floor.queue := (hf.queue_slot he).2 (congrArg LotState.place hreleased)
  have hlength : t.floor.queue.length = s.floor.queue.length - 1 := by rw [htq, filter_ne_length hf.nodup hpresent]
  have hle := hf.length
  refine ⟨⟨hf.moveFree he (e' := x.entry) hx hroll hseat hfree (funext (fun h => ?_)) (fun _ => hplace) ?_ ?_ (fun k hk => ?_) ?_,
    by omega, fun hw => ?_⟩, fun hc => hc.put hf he hx hroll hseat hfree (funext (fun d => State.pending_same hdev d))⟩
  · show t.handlers[h].cell.load = _
    rw [hhandlers]
    rfl
  · omega
  · rw [htq]; exact hf.nodup.filter _
  · rw [htq, List.mem_filter, decide_eq_true_eq]
    exact and_iff_left hk
  · rw [htq, hplace, List.mem_filter]
    simp [Lot.entry]
  · obtain ⟨y, hy, hwaits⟩ := hw
    rw [hroll, Floor.mem_put he hx] at hy
    rcases hy with rfl | ⟨hy, -⟩
    · rw [hplace] at hwaits; cases hwaits
    · have := hfull ⟨y, hy, hwaits⟩
      omega

/-- A lot on no handler leaves the table, and its record the release queue. -/
theorem Floor.Agrees.drop {f g : Floor} {e : Entry} (hf : f.Agrees) (he : e ∈ f.roll) (hseat : e.place.seat = none)
    (hroll : g.roll = f.roll.filter (fun x => x.slot ≠ e.slot)) (hloads : g.loads = f.loads)
    (hqueue : g.queue = f.queue.filter (fun k => k ≠ e.slot)) (hpending : g.pending = f.pending) :
    g.Agrees ∧ (f.Counted → g.Counted) ∧ (g.Waits → f.Waits) := by
  have hmem : ∀ x, x ∈ g.roll ↔ x ∈ f.roll ∧ x.slot ≠ e.slot := fun x => by
    rw [hroll, List.mem_filter, decide_eq_true_eq]
  have hat : ∀ (k : Slot) (p : Entry → Prop), (∃ x ∈ g.roll, x.slot = k ∧ p x) ↔ k ≠ e.slot ∧ ∃ x ∈ f.roll, x.slot = k ∧ p x :=
    fun k p => by
      constructor
      · rintro ⟨x, hx, rfl, hp⟩
        obtain ⟨hx, hne⟩ := (hmem x).1 hx
        exact ⟨hne, x, hx, rfl, hp⟩
      · rintro ⟨hne, x, hx, rfl, hp⟩
        exact ⟨x, (hmem x).2 ⟨hx, hne⟩, rfl, hp⟩
  refine ⟨⟨hroll ▸ hf.slots.filter _, fun h σ k => ?_, fun x hx => hf.holds x ((hmem x).1 hx).1, ?_, hqueue ▸ hf.nodup.filter _,
    fun k => ?_⟩, fun hc d => ?_, fun ⟨x, hx, hw⟩ => ⟨x, ((hmem x).1 hx).1, hw⟩⟩
  · rw [hloads, hat, hf.seats]
    refine ⟨?_, And.right⟩
    rintro ⟨x, hx, rfl, hs⟩
    refine ⟨fun hxe => ?_, x, hx, rfl, hs⟩
    rw [hf.unique hx he hxe, hseat] at hs
    cases hs
  · rw [hqueue]
    exact (List.length_filter_le _ _).trans hf.length
  · rw [hqueue, List.mem_filter, hat, hf.queued, decide_eq_true_eq, and_comm]
  · obtain ⟨as, bs, hsplit⟩ := List.append_of_mem he
    have hself := Floor.put_split hf (e' := e) rfl hsplit
    have hcount : g.roll.countP (fun x => x.place.names d) = f.roll.countP (fun x => x.place.names d) := by
      rw [hroll, List.countP_filter]
      refine List.countP_congr (fun x hx => ?_)
      rw [Bool.and_eq_true, decide_eq_true_eq]
      refine ⟨And.left, fun hn => ⟨hn, fun hxe => ?_⟩⟩
      rw [hf.unique hx he hxe, Place.names_of_free hseat] at hn
      cases hn
    rw [hcount, hpending]
    exact hc d

theorem State.filter_roll (s : State) (k : Slot) :
    (s.dropLot k).lots.map Lot.entry = s.floor.roll.filter (fun e => e.slot ≠ k) := by
  show (s.lots.filter _).map _ = (s.lots.map Lot.entry).filter _
  rw [List.filter_map]
  rfl

/-- A RELEASED lot is collected with its record: its place is offered. -/
theorem State.collected_offers (hs : s.floor.Consistent) (hl : s.lot? l.slot = some l) (hreleased : l.state = .released) :
    ((s.dropRecord l.slot).dropLot l.slot).floor.Offers ∧
      (s.floor.Counted → ((s.dropRecord l.slot).dropLot l.slot).floor.Counted) := by
  obtain ⟨hf, hfull⟩ := hs
  have he : l.entry ∈ s.floor.roll := State.entry_mem hl
  have hseat : l.entry.place.seat = none := congrArg (fun y => y.place.seat) hreleased
  have hpresent : l.slot ∈ s.floor.queue := (hf.queue_slot he).2 (congrArg LotState.place hreleased)
  have htq : ((s.dropRecord l.slot).dropLot l.slot).floor.queue = s.floor.queue.filter (fun k => k ≠ l.slot) := s.filter_queue l.slot
  have hlength : ((s.dropRecord l.slot).dropLot l.slot).floor.queue.length = s.floor.queue.length - 1 := by
    rw [htq, filter_ne_length hf.nodup hpresent]
  have hle := hf.length
  obtain ⟨hagrees, hcounted, hwaits⟩ := hf.drop (g := ((s.dropRecord l.slot).dropLot l.slot).floor) he hseat (s.filter_roll l.slot)
    rfl htq rfl
  refine ⟨⟨hagrees, by omega, fun hw => ?_⟩, hcounted⟩
  rw [hlength, hfull (hwaits hw)]

theorem Leads.collect (hl : s.lot? l.slot = some l) (hreleased : l.state = .released) : Leads P s (s.collect l.slot) := by
  intro hs
  obtain ⟨hoffers, hcounted⟩ := State.collected_offers hs hl hreleased
  obtain ⟨hconsistent, hoffered⟩ := State.offerPlace_consistent hoffers
  exact ⟨hconsistent, fun _ hc => hoffered (hcounted hc)⟩

/-- A lot that is neither on a handler nor let go is purged. -/
theorem Leads.dropLot (hl : s.lot? l.slot = some l) (hplace : l.state.place = .away) : Leads P s (s.dropLot l.slot) := by
  rintro ⟨hf, hfull⟩
  have he : l.entry ∈ s.floor.roll := State.entry_mem hl
  have hseat : l.entry.place.seat = none := by
    show l.state.place.seat = none
    rw [hplace]
    rfl
  have habsent : l.slot ∉ s.floor.queue := fun hmem => by
    have := (hf.queue_slot he).1 hmem
    rw [show l.entry.place = .away from hplace] at this
    cases this
  have htq : (s.dropLot l.slot).floor.queue = s.floor.queue.filter (fun k => k ≠ l.slot) := by
    refine (List.filter_eq_self.2 (fun k hk => ?_)).symm
    exact decide_eq_true (fun h => habsent (h ▸ hk))
  obtain ⟨hagrees, hcounted, hwaits⟩ := hf.drop (g := (s.dropLot l.slot).floor) he hseat (s.filter_roll l.slot) rfl htq rfl
  exact ⟨⟨hagrees, fun hw => hfull (hwaits hw)⟩, fun _ => hcounted⟩

theorem insertLot_perm (l : Lot) (ls : List Lot) : (insertLot l ls).Perm (l :: ls) := by
  induction ls with
  | nil => exact .refl _
  | cons x xs ih =>
    unfold insertLot
    split
    · exact .refl _
    · exact (ih.cons x).trans (.swap l x xs)

/-- A lot joins the table in a free slot, on no handler and without holds. -/
theorem Leads.addLot (hfree : s.freeSlot? = some l.slot) (hplace : l.state.place = .held) (hholds : l.holds = []) :
    Leads P s (s.addLot l) := by
  rintro ⟨hf, hfull⟩
  have hs : s.SlotsInOrder := s.floor_slots.1 hf.slots
  have hperm : (s.addLot l).floor.roll.Perm (l.entry :: s.floor.roll) := (insertLot_perm l s.lots).map Lot.entry
  have hentry : l.entry.place = .held := hplace
  have hat : ∀ (p : Entry → Prop), ¬ p l.entry → ((∃ x ∈ (s.addLot l).floor.roll, p x) ↔ ∃ x ∈ s.floor.roll, p x) := fun p hp => by
    constructor
    · rintro ⟨x, hx, hpx⟩
      rcases List.mem_cons.1 (hperm.mem_iff.1 hx) with rfl | hx
      · exact absurd hpx hp
      · exact ⟨x, hx, hpx⟩
    · rintro ⟨x, hx, hpx⟩
      exact ⟨x, hperm.mem_iff.2 (List.mem_cons_of_mem _ hx), hpx⟩
  refine ⟨⟨⟨(s.addLot l).floor_slots.2 (hs.addLot hfree), fun h σ k => ?_, fun x hx hon => ?_, hf.length, hf.nodup, fun k => ?_⟩,
    fun hw => hfull ((hat _ (by rw [hentry]; exact nofun)).1 hw)⟩, fun _ hc d => ?_⟩
  · rw [hat _ (by rw [hentry]; exact fun h => nomatch h.2)]
    exact hf.seats h σ k
  · rcases List.mem_cons.1 (hperm.mem_iff.1 hx) with rfl | hx
    · exact absurd hholds (l.entry_onHold.1 hon)
    · exact hf.holds x hx hon
  · rw [hat _ (by rw [hentry]; exact fun h => nomatch h.2)]
    exact hf.queued k
  · rw [hperm.countP_eq, List.countP_cons, hentry]
    exact hc d

end Sys2Proof.Machine
end

section
/-! SUPPORT. A reason placed on a lot, a lot's way on from a closed step, and a lot that leaves its handler, on the floor. -/

namespace Sys2Proof.Machine

variable {P : Prop} {s t : State} {l x : Lot} {h : HandlerId}

/-! ### Placing a reason -/

theorem Leads.recall (hl : s.lot? l.slot = some l) (hreleased : l.state = .released) (hx : x.slot = l.slot)
    : Leads P s ((s.holdMarked.putLot x).recall l.slot) := by
  intro hs
  have hc := s.consistent_iff.2 hs
  obtain ⟨hoffers, hcounted⟩ := State.recalled_offers (t := { s.holdMarked.putLot { x with state := .held, endorsements := [] } with
    releaseQueue := s.releaseQueue.filter (fun y => y.slot ≠ l.slot) }) (x := { x with state := .held, endorsements := [] })
    hs hl hreleased hx rfl rfl rfl rfl rfl
  rw [hc.slots.recall_putLot hl hx]
  obtain ⟨hconsistent, hoffered⟩ := State.offerPlace_consistent hoffers
  exact ⟨hconsistent, fun _ hcount => hoffered (hcounted hcount)⟩

theorem Leads.placeHold (k : Slot) (r : HoldReason) (who : Option StationId) (gs : BitVec 4) :
    Leads P s (s.placeHold k r who gs).1 := by
  intro hs
  have hc := s.consistent_iff.2 hs
  cases hl : s.lot? k with
  | none =>
    rw [State.placeHold, hl]
    exact Leads.refl s hs
  | some l =>
    obtain rfl : l.slot = k := State.lot?_slot hl
    by_cases hno : l.hasHold r = true ∨ l.state = .scrapped
    · rw [State.placeHold_refused who gs hl hno]
      exact Leads.refl s hs
    · obtain ⟨hfresh, hlive⟩ := not_or.1 hno
      rw [hc.slots.placeHold_eq who gs hl (Bool.eq_false_iff.2 hfresh) hlive]
      dsimp only
      split
      · next w hstate =>
        exact Leads.moveFree (x := { l.withHold ⟨r, s.floorTime, who, gs⟩ with state := .held }) hl rfl rfl
          (by rw [hstate]; rfl) rfl rfl (fun _ => rfl) rfl (by rw [hstate]; simp [LotState.place]) nofun rfl hs
      · next w h q hstate =>
        rw [hc.slots.cancelReservation_putLot hl (x := l.withHold ⟨r, s.floorTime, who, gs⟩) rfl hstate]
        refine Leads.thenFloor ?_ (State.floor_markBound _ _ _ _) hs
        refine Leads.unreserve (x := { l.withHold ⟨r, s.floorTime, who, gs⟩ with state := .held }) hl rfl rfl hstate (.inl rfl)
          (fun i hi => ?_) ?_ rfl rfl
        · exact congrArg Handler.cell (set_getElem_ne _ (Ne.symm hi) _)
        · exact congrArg Handler.cell (set_getElem_self _ _ _)
      · next h q hstate =>
        rw [hc.slots.startDrain_putLot hl (x := l.withHold ⟨r, s.floorTime, who, gs⟩) rfl]
        refine Leads.thenFloor ?_ (State.floor_markBound _ _ _ _) hs
        refine Leads.drains (x := { l.withHold ⟨r, s.floorTime, who, gs⟩ with state := .draining h q r }) hl rfl rfl hstate rfl
          (fun i hi => ?_) ?_ rfl rfl
        · exact congrArg Handler.cell (set_getElem_ne _ (Ne.symm hi) _)
        · exact congrArg Handler.cell (set_getElem_self _ _ _)
      · next w hstate =>
        exact Leads.moveFree (x := { l.withHold ⟨r, s.floorTime, who, gs⟩ with state := .held, endorsements := [] }) hl rfl rfl
          (by rw [hstate]; cases w <;> rfl) rfl rfl (fun _ => rfl) rfl (by rw [hstate]; cases w <;> simp [LotState.place]) nofun rfl hs
      · next hstate => exact Leads.recall hl hstate (x := l.withHold ⟨r, s.floorTime, who, gs⟩) rfl hs
      · next hqueued hreserved hrunning hcomplete hreleased =>
        refine Leads.stays (x := l.withHold ⟨r, s.floorTime, who, gs⟩) hl rfl rfl rfl (fun _ => ?_) rfl rfl rfl hs
        cases hstate : l.state with
        | held => exact .inl rfl
        | draining h q c => exact .inr rfl
        | scrapped => exact absurd hstate hlive
        | queued w => exact absurd hstate (hqueued w)
        | reserved w h q => exact absurd hstate (hreserved w h q)
        | running h q => exact absurd hstate (hrunning h q)
        | complete w => exact absurd hstate (hcomplete w)
        | released => exact absurd hstate hreleased

/-! ### A lot on no handler -/

/-- A HELD lot that stays HELD, or goes away from every list without holds. -/
theorem Leads.settles (hl : s.lot? l.slot = some l) (hheld : l.state = .held) (hx : x.slot = l.slot)
    (hlots : t.lots = (s.putLot x).lots) (hplace : x.state.place = .held ∨ (x.state.place = .away ∧ x.holds = []))
    (hhandlers : t.handlers = s.handlers) (hqueue : t.releaseQueue = s.releaseQueue) (hdev : t.deviations = s.deviations) :
    Leads P s t := by
  refine Leads.moveFree hl hx hlots (by rw [hheld]; rfl) ?_ hhandlers (fun hon => ?_) hqueue ?_ (fun hw => ?_) hdev
  · rcases hplace with hp | ⟨hp, -⟩ <;> rw [hp] <;> rfl
  · rcases hplace with hp | ⟨-, hp⟩
    · exact hp
    · exact absurd hp hon
  · rw [hheld]
    rcases hplace with hp | ⟨hp, -⟩ <;> rw [hp] <;> simp [LotState.place]
  · rcases hplace with hp | ⟨hp, -⟩ <;> rw [hp] at hw <;> cases hw

theorem Leads.enterQueue (hl : s.lot? l.slot = some l) (hheld : l.state = .held) (hx : x.slot = l.slot) (hholds : x.holds = []) :
    Leads P s (s.putQueued x) :=
  Leads.settles (x := { x with state := .queued (s.freshWait (s.stepOf x)) }) hl hheld hx rfl (.inr ⟨rfl, hholds⟩) rfl rfl rfl

theorem Leads.continueLot (hl : s.lot? l.slot = some l) (hheld : l.state = .held) (r : HoldReason) :
    Leads P s (s.continueLot l.slot r) := by
  intro hs
  have hc := s.consistent_iff.2 hs
  have hcleared : (l.clearHold r).state = l.state := rfl
  rw [hc.slots.continueLot_eq hl r]
  split
  · exact Leads.settles hl hheld (x := l.clearHold r) rfl rfl (.inl (by rw [hcleared, hheld]; rfl)) rfl rfl rfl hs
  · next hnone =>
    have hempty : (l.clearHold r).holds = [] := not_not.1 hnone
    split
    · split
      · exact Leads.enterQueue hl hheld (x := (l.clearHold r).openNext) rfl hempty hs
      · exact (Leads.settles hl hheld (x := { l.clearHold r with state := .complete none })
          (t := s.putLot { l.clearHold r with state := .complete none }) rfl rfl (.inr ⟨rfl, hempty⟩) rfl rfl rfl).thenFloor
            (State.floor_markComplete _ _) hs
    · split
      · exact Leads.enterQueue hl hheld (x := l.clearHold r) rfl hempty hs
      · exact Leads.settles hl hheld (x := { l.clearHold r with holds := [⟨.runLimit, s.floorTime, none, 0⟩] }) rfl rfl
          (.inl ((congrArg LotState.place hcleared).trans (by rw [hheld]; rfl))) rfl rfl rfl hs

/-! ### A lot leaves its handler -/

/-- The cell that a lot leaves. -/
def Cell.left (c : Cell) : Cell :=
  match c.reserved with
  | some k => .preparing k
  | none => .idle

theorem Cell.load_left (c : Cell) : c.left.load .reserved = c.reserved ∧ c.left.load .running = none ∧ c.left.load .draining = none := by
  unfold Cell.left
  split
  · next hk => exact ⟨hk.symm, rfl, rfl⟩
  · next hk => exact ⟨hk.symm, rfl, rfl⟩

/-- Two states that write one handler with the same seats have the same floor. -/
theorem State.floor_set {a b : State} {y z : Handler} (ha : a.handlers = s.handlers.set h y) (hb : b.handlers = s.handlers.set h z)
    (hcell : y.cell.load = z.cell.load) (hlots : a.lots = b.lots) (hqueue : a.releaseQueue = b.releaseQueue)
    (hdev : a.deviations = b.deviations) : a.floor = b.floor := by
  refine State.floor_congr hlots (fun i => ?_) hqueue hdev
  rw [ha, hb, set_getElem_fin, set_getElem_fin]
  split
  · exact hcell
  · rfl

theorem State.leaveHandler_floor (u : State) (h : HandlerId) :
    (u.leaveHandler h).floor = (u.updHandler h (fun x => { x with cell := u.handlers[h].cell.left })).floor := by
  cases hk : u.handlers[h].cell.reserved with
  | none =>
    rw [State.leaveHandler_free hk, show u.handlers[h].cell.left = .idle from by rw [Cell.left, hk]]
    exact State.floor_set (s := u) rfl rfl rfl rfl rfl rfl
  | some k =>
    rw [State.leaveHandler_reserved hk, show u.handlers[h].cell.left = .preparing k from by rw [Cell.left, hk],
      State.floor_readyCheck, State.floor_applySetup]
    exact State.floor_set (s := u) rfl rfl rfl rfl rfl rfl

/-- A current lot that is HELD, or sent on without holds, and then leaves its handler. -/
theorem Leads.leaveHandler {u : State} (hl : s.lot? l.slot = some l) (hx : x.slot = l.slot) (hlots : u.lots = (s.putLot x).lots)
    (hcurrent : s.handlers[h].cell.current = some l.slot)
    (hplace : x.state.place = .held ∨ (x.state.place = .away ∧ x.holds = [])) (hhandlers : u.handlers = s.handlers)
    (hqueue : u.releaseQueue = s.releaseQueue) (hdev : u.deviations = s.deviations) : Leads P s (u.leaveHandler h) := by
  refine Leads.thenFloor (t := u.updHandler h (fun x => { x with cell := u.handlers[h].cell.left })) ?_ (u.leaveHandler_floor h)
  refine Leads.leaves hl hx hlots hcurrent hplace (fun i hi => ?_) ?_ hqueue hdev
  · rw [State.updHandler_ne _ (Ne.symm hi), hhandlers]
  · rw [State.updHandler_self, ← hhandlers]
    exact Cell.load_left _

theorem Leads.drained (hl : s.lot? l.slot = some l) (hcurrent : s.handlers[h].cell.current = some l.slot) :
    Leads P s ((s.heldFromDrain l.slot).leaveHandler h) := by
  intro hs
  have hc := s.consistent_iff.2 hs
  rw [hc.slots.heldFromDrain_eq hl]
  exact Leads.leaveHandler hl (x := { l with state := .held, cur := { l.cur with runs := endRun s.floorTime l.cur.runs } }) rfl rfl
    hcurrent (.inl rfl) rfl rfl rfl hs

/-- Where a closed lot goes: HELD with holds, or on without. -/
theorem State.SlotsInOrder.afterClose_lot {c : State} (hs : c.SlotsInOrder) (hl : c.lot? l.slot = some l) (hx : x.slot = l.slot) :
    ∃ y, ((c.putLot x).afterClose l.slot).lots = (c.putLot y).lots ∧ y.slot = l.slot ∧
      (y.state.place = .held ∨ (y.state.place = .away ∧ y.holds = [])) := by
  rw [hs.afterClose_putLot hl hx]
  split
  · exact ⟨{ x with state := .held }, rfl, hx, .inl rfl⟩
  · next hnone =>
    have hempty : x.holds = [] := not_not.1 hnone
    split
    · exact ⟨{ x.openNext with state := .queued (c.freshWait (c.stepOf x.openNext)) }, rfl, hx, .inr ⟨rfl, hempty⟩⟩
    · rw [State.markComplete_eq]
      exact ⟨{ x with state := .complete none }, rfl, hx, .inr ⟨rfl, hempty⟩⟩

theorem Lot.closing_slot (l : Lot) (t : Time) (short noGood : Bool) : (l.closing t short noGood).slot = l.slot := by
  cases short <;> cases noGood <;> rfl

theorem Leads.lotEnd (hl : s.lot? l.slot = some l) (hcurrent : s.handlers[h].cell.current = some l.slot) :
    Leads P s (((s.closeStep l).1.afterClose l.slot).leaveHandler h) := by
  intro hs
  have hc := s.consistent_iff.2 hs
  obtain ⟨short, hshort⟩ : ∃ b : Bool, b = true ↔ (s.stepOf l).tolerance < l.cur.missingCount ∧ l.hasHold .countShort = false :=
    ⟨decide _, decide_eq_true_iff⟩
  obtain ⟨noGood, hnoGood⟩ : ∃ b : Bool, b = true ↔ l.cur.good = 0 ∧ l.hasHold .noGoodUnits = false := ⟨decide _, decide_eq_true_iff⟩
  have hclose := congrArg Prod.fst (hc.slots.closeStep_eq hl hshort hnoGood)
  have hsame : ∀ b : Prop, [Decidable b] → ∃ c : State, (if b then s else s.holdMarked) = c ∧ c.SlotsInOrder ∧
      c.lot? l.slot = some l ∧ c.lots = s.lots ∧ c.handlers = s.handlers ∧ c.releaseQueue = s.releaseQueue ∧
      c.deviations = s.deviations := fun b _ => by
    refine ⟨_, rfl, ?_⟩
    split
    · exact ⟨hc.slots, hl, rfl, rfl, rfl, rfl⟩
    · exact ⟨hc.slots, hl, rfl, rfl, rfl, rfl⟩
  obtain ⟨c, hmarked, hcs, hcl, hlots, hhandlers, hqueue, hdev⟩ := hsame (closingReasons short noGood = [])
  rw [hmarked] at hclose
  rw [hclose]
  obtain ⟨y, hy, hslot, hplace⟩ := hcs.afterClose_lot hcl (x := l.closing s.floorTime short noGood)
    (l.closing_slot _ _ _)
  obtain ⟨hh, hq, hd⟩ : ((c.putLot (l.closing s.floorTime short noGood)).afterClose l.slot).handlers = c.handlers ∧
      ((c.putLot (l.closing s.floorTime short noGood)).afterClose l.slot).releaseQueue = c.releaseQueue ∧
      ((c.putLot (l.closing s.floorTime short noGood)).afterClose l.slot).deviations = c.deviations := by
    obtain ⟨ls, n, ss, h⟩ := (c.putLot (l.closing s.floorTime short noGood)).afterClose_frame l.slot
    rw [h]
    exact ⟨rfl, rfl, rfl⟩
  refine Leads.leaveHandler hl hslot (hy.trans ?_) hcurrent hplace (hh.trans hhandlers) (hq.trans hqueue) (hd.trans hdev) hs
  unfold State.putLot
  rw [hlots]

/-! ### Loads, temperature and the handler out of work -/

theorem Leads.afterLoad (u : TesterId) : Leads P s (s.afterLoad u) := by
  unfold State.afterLoad
  split
  · exact .refl s
  · split
    · exact .refl s
    · split
      · exact .of_floor (s.floor_readyCheck _)
      · split
        · split
          · split
            · exact .of_floor (s.floor_startLoad _ _ _)
            · exact .cancelReservation _ _
          · exact .of_floor (s.floor_startLoad _ _ _)
        · exact .of_floor (s.floor_startLoad _ _ _)

theorem Leads.loadEnded (u : TesterId) : Leads P s (s.loadEnded u) := by
  unfold State.loadEnded
  split
  · exact (Leads.of_floor (s.floor_markStagingFault u)).trans (.afterLoad u)
  · exact .afterLoad u

theorem Leads.holdThermal (h : HandlerId) : Leads P s (s.holdThermal h) := by
  unfold State.holdThermal
  split
  · exact .placeHold _ _ _ _
  · exact .of_floor (s.floor_readyCheck h)

theorem Cell.load_offline : Cell.offline.load = Cell.idle.load := by
  funext σ
  cases σ <;> rfl

theorem Leads.goOffline (hidle : s.handlers[h].cell = .idle) : Leads P s (s.updHandler h Handler.goOffline) :=
  .of_floor (s.floor_updHandler h (by rw [hidle]; exact Cell.load_offline))

/-- A handler that waits for its reserved lot is IDLE once the reservation is cancelled. -/
theorem State.Consistent.cancelled_idle (hs : s.Consistent) {k : Slot}
    (hcell : s.handlers[h].cell = .preparing k ∨ s.handlers[h].cell = .ready k) :
    (s.cancelReservation k false).handlers[h].cell = .idle := by
  have hreserved : s.handlers[h].cell.reserved = some k := by rcases hcell with hk | hk <;> rw [hk] <;> rfl
  obtain ⟨l, hmem, rfl, w, r, hstate⟩ := hs.reservedOfCell h k hreserved
  rw [hs.slots.cancelReservation_eq (State.lot?_of_mem hs.slots hmem) hstate]
  obtain ⟨ss, hss⟩ := State.markBound_frame { s.putLot { l with state := if false then .held else .queued w } with
    deviations := (s.updPending r.deviation (fun n => n - 1)).deviations
    handlers := s.handlers.set h s.handlers[h].dropReserved } h .reservationCancelled (unitBit h)
  rw [hss]
  refine (congrArg Handler.cell (set_getElem_self s.handlers h _)).trans ?_
  show s.handlers[h].cell.dropReserved = _
  rcases hcell with hk | hk <;> rw [hk] <;> rfl

theorem Leads.offlineReserved {k : Slot} (hcell : s.handlers[h].cell = .preparing k ∨ s.handlers[h].cell = .ready k) :
    Leads P s ((s.cancelReservation k false).updHandler h Handler.goOffline) := fun hs =>
  ((Leads.cancelReservation k false).trans (Leads.goOffline ((s.consistent_iff.2 hs).cancelled_idle hcell))) hs

/-! ### Touchdowns -/

theorem Leads.lookahead (h : HandlerId) : Leads P s (s.lookahead h).1 := by
  intro hs
  have hc := s.consistent_iff.2 hs
  unfold State.lookahead
  split
  · next hdue =>
    have hcell : ∃ k, s.handlers[h].cell = .running k none := by
      unfold State.lookaheadDue at hdue
      split at hdue
      · next k c hk _ => exact ⟨k, hk⟩
      · cases hdue
    split
    · next l c hselect =>
      obtain ⟨hmem, heligible⟩ := State.select_candidate hselect
      obtain ⟨hqueued, -⟩ := (s.eligible_iff h l).1 heligible
      obtain ⟨w, hstate⟩ := l.isQueued_iff.1 hqueued
      exact Leads.reserve (State.lot?_of_mem hc.slots hmem) hstate (State.select_hasCapacity hselect) (.inr hcell) hs
    · exact Leads.refl s hs
  · exact Leads.refl s hs

theorem Leads.tripIf (c : Checked) (b : Bool) (k : Slot) (r : HoldReason) (gs : BitVec 4) :
    Leads P c.state (c.tripIf b k r gs).state := by
  unfold Checked.tripIf
  split
  · exact .placeHold k r none gs
  · exact .refl _

theorem Leads.rearmIf (c : Checked) (b : Bool) (k : Slot) : Leads P c.state (c.rearmIf b k).state := by
  unfold Checked.rearmIf
  split
  · exact .of_floor (c.state.floor_updLot k (fun _ => rfl))
  · exact .refl _

theorem Leads.holdChecks (st : RouteStep) (k : Slot) (r : StepRecord) (ring : List Bool) :
    Leads P s (holdChecks st k r ring s).state := by
  unfold Machine.holdChecks
  exact ((((Leads.tripIf ⟨s, []⟩ _ _ _ _).trans (.tripIf _ _ _ _ _)).trans (.rearmIf _ _ _)).trans (.tripIf _ _ _ _ _)).trans
    (.tripIf _ _ _ _ _)

theorem State.floor_siteCheck (s : State) (st : RouteStep) (h : HandlerId) (sites : Vector SiteCount 8) :
    (s.siteCheck st h sites).1.floor = s.floor := by
  unfold State.siteCheck
  split
  · unfold State.disableSite
    rw [State.floor_markBound]
    exact State.floor_updHandler _ h rfl
  · rfl

theorem Leads.checkTouchdown (h : HandlerId) (k : Slot) : Leads P s (s.checkTouchdown h k).1.state := by
  unfold State.checkTouchdown
  split
  · next l g _ _ => exact (Leads.holdChecks (s.stepOf l) k l.cur g.ring).thenFloor (State.floor_siteCheck _ _ h g.sites)
  · exact .refl s

theorem Handler.restartStall_cell (x : Handler) : x.restartStall.cell = x.cell := by
  unfold Handler.restartStall
  split <;> rfl

theorem Leads.acceptTouchdown (h : HandlerId) (l : Lot) (g : GuardRun) (index : BitVec 16) (n : Nat) (results : List Nat) :
    Leads P s (s.acceptTouchdown h l g index n results).state := by
  obtain ⟨u, hu, hstate⟩ := s.acceptTouchdown_state h l g index n results
  have hcounted : (s.countTouchdown h l g index n (unitsOf results)).floor = s.floor :=
    s.floor_updLot l.slot (f := fun x => { x with cur := (x.cur.addGap n).countUnits (s.stepOf l) (unitsOf results) }) (fun _ => rfl)
  have hchecked : Leads P s u := by
    rcases hu with rfl | rfl
    · exact .of_floor hcounted
    · exact (Leads.of_floor hcounted).trans (.checkTouchdown h l.slot)
  rw [hstate]
  exact (hchecked.thenFloor (u.floor_updHandler h (congrArg Cell.load (Handler.restartStall_cell _)))).trans (.lookahead h)

end Sys2Proof.Machine
end

section
/-! SUPPORT. Each request's work, each event and so each step leads from a consistent floor to a consistent floor, and keeps the
pending counts. -/

namespace Sys2Proof.Machine

variable {P : Prop} {s t : State} {l x : Lot} {h : HandlerId}

/-! ### Endorsements and collection -/

/-- A COMPLETE lot that keeps its place, or leaves the waiting list. -/
theorem Leads.withdraw (hl : s.lot? l.slot = some l) (hcomplete : l.state.name = .complete) (i : StationId) :
    Leads P s (s.updLot l.slot (Lot.withdraw i)) := by
  intro hs
  have hc := s.consistent_iff.2 hs
  have hholds : l.holds = [] := by
    refine hc.no_holds hl ?_ ?_ <;> rw [hcomplete] <;> decide
  obtain ⟨w, hstate⟩ : ∃ w, l.state = .complete w := by
    cases hx : l.state with
    | complete w => exact ⟨w, rfl⟩
    | _ => rw [hx] at hcomplete; cases hcomplete
  rw [hc.slots.updLot_eq hl (Lot.withdraw i) rfl]
  refine Leads.moveFree hl (x := l.withdraw i) rfl rfl (by rw [hstate]; cases w <;> rfl) rfl rfl (fun hon => absurd hholds hon) rfl ?_
    nofun rfl hs
  rw [hstate]
  cases w <;> simp [LotState.place, Lot.withdraw]

theorem Leads.endorse (hl : s.lot? l.slot = some l) (hcomplete : l.state.name = .complete) (e : Endorsement) :
    Leads P s (s.endorse l e).state := by
  intro hs
  have hc := s.consistent_iff.2 hs
  have hholds : l.holds = [] := by
    refine hc.no_holds hl ?_ ?_ <;> rw [hcomplete] <;> decide
  obtain ⟨w, hstate⟩ : ∃ w, l.state = .complete w := by
    cases hx : l.state with
    | complete w => exact ⟨w, rfl⟩
    | _ => rw [hx] at hcomplete; cases hcomplete
  have hseat : l.state.place.seat = none := by rw [hstate]; cases w <;> rfl
  have hnot : l.state ≠ .released := by rw [hstate]; nofun
  have hlength : s.floor.queue.length = s.releaseQueue.length := List.length_map _
  rw [hc.slots.endorse_eq hl e]
  split
  · exact Leads.stays (x := l.endorse e) hl rfl rfl rfl (fun hon => absurd hholds hon) rfl rfl rfl hs
  · split
    · next hroom =>
      have hnone : ¬ s.floor.Waits := fun hw => by
        have := hs.2 hw
        omega
      obtain ⟨hagrees, hcounted⟩ := State.released_agrees
        (t := { s.putLot { l.endorse e with state := .released } with
            releaseQueue := s.releaseQueue ++ [s.releaseRecord (l.endorse e)] }.markRoles [.dock, .floor] .lotReleased 0)
        (x := { l.endorse e with state := .released }) hs.1 hl rfl rfl hseat hnot rfl hholds rfl (by exact List.map_append) (by omega) rfl
      refine ⟨⟨hagrees, fun hw => absurd ?_ hnone⟩, fun _ => hcounted⟩
      obtain ⟨y, hy, hwaits⟩ := hw
      have hy' : y ∈ s.floor.put ({ l.endorse e with state := .released } : Lot).entry := by
        rw [← State.floor_putLot]
        exact hy
      rcases (Floor.mem_put (e := l.entry) (State.entry_mem hl) (by rfl)).1 hy' with rfl | ⟨hy, -⟩
      · cases hwaits
      · exact ⟨y, hy, hwaits⟩
    · next hroom =>
      have hfull := hs.1.length
      refine Leads.moveFree (x := { l.endorse e with state := .complete (some (min 4294967295 (s.waitingCounter + 1))) }) hl rfl rfl hseat
        rfl rfl (fun hon => absurd hholds hon) rfl ?_ (fun _ => by omega) rfl hs
      rw [hstate]
      cases w <;> simp [LotState.place]

/-! ### A begun lot -/

theorem State.pending_begun {r : Resolved} (hcovered : s.DeviationsCovered)
    (hdev : t.deviations = match r.deviation with
      | none => s.deviations
      | some d => s.deviations.set d (s.deviations[d].bind Deviation.begun)) (i : DevId) :
    t.floor.pending i = s.floor.pending i - (decide (r.deviation = some i)).toNat := by
  show ((t.deviations[i]).map _).getD 0 = ((s.deviations[i]).map _).getD 0 - _
  rw [hdev]
  cases hr : r.deviation with
  | none => rfl
  | some d =>
    dsimp only
    rw [set_getElem_fin]
    split
    · next hd =>
      subst hd
      rw [decide_eq_true rfl]
      cases he : s.deviations[d] with
      | none => rfl
      | some e =>
        obtain ⟨hle, -⟩ := hcovered d e he
        show ((e.begun).map (·.pending)).getD 0 = e.pending - 1
        rw [e.begun_eq]
        split
        · show 0 = e.pending - 1
          omega
        · rfl
    · next hd => rw [decide_eq_false (fun h => hd (Option.some.inj h))]; rfl

/-- The reserved lot of a READY handler begins; its entry is used where no entry has more lots pending than uses left. -/
theorem Leads.beginLot (hP : P → s.DeviationsCovered) (hl : s.lot? l.slot = some l) (hready : s.handlers[h].cell = .ready l.slot)
    {r : Resolved} (hresolved : l.state.resolved? = some r) (u : TesterId) : Leads P s (s.beginLot h u l r).state := by
  intro hs
  have hc := s.consistent_iff.2 hs
  obtain ⟨w, q, hstate⟩ := LotState.seat_reserved.1 ((hc.load_slot hl h .reserved).1 (by rw [hready]; rfl))
  obtain rfl : q = r := by rw [hstate] at hresolved; exact Option.some.inj hresolved
  rw [hc.slots.beginLot_eq hl u q]
  refine Leads.begins (x := l.begin h q (s.newRun h u q)) hl rfl rfl hstate rfl rfl hready (fun i hi => ?_) ?_ rfl
    (fun hp d => State.pending_begun (hP hp) rfl d) hs
  · exact congrArg Handler.cell (set_getElem_ne _ (Ne.symm hi) _)
  · exact congrArg Handler.cell (set_getElem_self _ _ _)

/-! ### A withdrawal across the part -/

theorem Leads.foldl {α : Type} {f : State → α → State} (hf : ∀ s a, Leads P s (f s a)) (as : List α) (s : State) :
    Leads P s (as.foldl f s) := by
  induction as generalizing s with
  | nil => exact .refl s
  | cons a as ih => exact (hf s a).trans (ih (f s a))

theorem Leads.holdRunning (p : Program) (u : TesterId) : Leads P s (s.holdRunning p u) := by
  unfold State.holdRunning
  split
  · exact .refl s
  · split
    · exact .refl s
    · split
      · exact .refl s
      · split
        · exact .placeHold _ _ _ _
        · exact .refl s

theorem Leads.readyCheckAt (u : TesterId) : Leads P s (s.readyCheckAt u) := by
  unfold State.readyCheckAt
  split
  · exact .of_floor (s.floor_readyCheck _)
  · exact .refl s

theorem Leads.applyWithdrawal (p : Program) : Leads P s (s.applyWithdrawal p) := by
  unfold State.applyWithdrawal
  have cancelled : Leads P s (s.cancelAll p) := Leads.foldl (fun s (l : Lot) => .cancelReservation l.slot false) _ s
  have emptied : Leads P s { s.cancelAll p with testers := vecMap (Tester.withdraw p) (s.cancelAll p).testers } :=
    cancelled.thenFloor rfl
  exact ((emptied.trans (.foldl (fun _ => .holdRunning p) _ _)).trans (.foldl (fun _ => .loadEnded) _ _)).trans
    (.foldl (fun _ => .readyCheckAt) _ _)

/-! ### Every request -/

/-- A deviation entry written or cleared without lots pending leaves the floor. -/
theorem State.floor_updDeviation (d : DevId) (f : Option Deviation → Option Deviation)
    (hf : ((f s.deviations[d]).map (·.pending)).getD 0 = ((s.deviations[d]).map (·.pending)).getD 0) :
    (s.updDeviation d f).floor = s.floor := by
  refine congrArg (Floor.mk _ _ _) (funext (fun i => ?_))
  by_cases hi : d = i
  · subst hi
    rw [State.updDeviation_self, hf]
  · rw [State.updDeviation_ne s hi]

theorem State.floor_bind (i : StationId) (old new : Option HandlerId) : (s.bind i old new).floor = s.floor := by
  have unbound : ∀ (u : State) (o : Option StationId) (h : HandlerId), (u.updHandler h (fun x => { x with bound := o })).floor = u.floor :=
    fun u o h => u.floor_updHandler h rfl
  unfold State.bind
  cases old <;> cases new <;> simp only [unbound]

/-- A lot that joins the table without holds enters its queue. -/
theorem Leads.register (hfree : s.freeSlot? = some l.slot) (hheld : l.state = .held) (hholds : l.holds = []) :
    Leads P s ((s.addLot l).enterQueue l.slot) := by
  intro hs
  have hadd : Leads P s (s.addLot l) := Leads.addLot hfree (by rw [hheld]; rfl) hholds
  have hc := (State.consistent_iff _).2 (hadd hs).1
  have hl : (s.addLot l).lot? l.slot = some l := State.lot?_of_mem hc.slots (mem_insertLot.2 (.inl rfl))
  rw [hc.slots.enterQueue_eq hl]
  exact (hadd.trans (Leads.enterQueue hl hheld rfl hholds)) hs

theorem State.floor_enableSite (h : HandlerId) (c : HandlerConfig) (i : SiteIx) : (s.enableSite h c i).state.floor = s.floor :=
  s.floor_updHandler h (f := fun x => { x with config := some { c with sitesEnabled := c.sitesEnabled ||| (1 <<< i.val : BitVec 8) } }) rfl

theorem Leads.work {k : Kind} (w : Work k s t) (hP : P → s.DeviationsCovered) : Leads P s t := by
  intro hs
  have hc := s.consistent_iff.2 hs
  have inSlot : ∀ {l : Lot}, l ∈ s.lots → s.lot? l.slot = some l := fun hl => State.lot?_of_mem hc.slots hl
  cases w with
  | same => exact Leads.refl s hs
  | stationEnroll | stationRemove => exact Leads.of_floor (State.floor_bind _ _ _) hs
  | attentionRead | attentionMask => exact Leads.refl s hs
  | timeSet | dispatchConfig | productDefine | productRemove | programDefine | programRemove => exact Leads.refl s hs
  | lotRegister _ k id p quantity priority hfree =>
    exact Leads.register (l := newLot k id p quantity priority) hfree rfl rfl hs
  | lotPurge _ l hl hpurge =>
    refine Leads.dropLot (inSlot hl) ?_ hs
    rw [Lot.purgeable, Bool.or_eq_true, decide_eq_true_eq, Bool.and_eq_true, Bool.and_eq_true] at hpurge
    rcases hpurge with hscrapped | ⟨⟨hqueued, -⟩, -⟩
    · rw [hscrapped]; rfl
    · obtain ⟨w, hw⟩ := l.isQueued_iff.1 hqueued
      rw [hw]; rfl
  | lotEnd _ h l hl hcurrent => exact Leads.lotEnd (inSlot hl) hcurrent hs
  | programWithdraw _ i e p => exact (Leads.trans (.of_floor (t := s.setLibrary i e) rfl) (.applyWithdrawal p)) hs
  | callWork _ h l c hidle hselect =>
    obtain ⟨hmem, heligible⟩ := State.select_candidate hselect
    obtain ⟨hqueued, -⟩ := (s.eligible_iff h l).1 heligible
    obtain ⟨w, hstate⟩ := l.isQueued_iff.1 hqueued
    exact Leads.reserve (inSlot hmem) hstate (State.select_hasCapacity hselect) (.inl hidle) hs
  | lotBegin _ h u l r hl hready hresolved => exact Leads.beginLot hP (inSlot hl) hready hresolved u hs
  | lotPriority _ k priority => exact Leads.of_floor (s.floor_updLot k (fun _ => rfl)) hs
  | handlerConfig _ h | handlerLock _ h | handlerUnlock _ h => exact Leads.of_floor (s.floor_updHandler h rfl) hs
  | handlerOnline _ h hoffline => exact Leads.of_floor (s.floor_updHandler h (by rw [hoffline]; exact Cell.load_offline.symm)) hs
  | offlineIdle _ h hidle => exact Leads.goOffline hidle hs
  | offlineReserved _ h k hcell => exact Leads.offlineReserved hcell hs
  | dock _ h | undock _ h =>
    exact (Leads.of_floor (s.floor_updHandler h rfl)).thenFloor (State.floor_updTester _ _ _) hs
  | kitInstalled _ h => exact ((Leads.of_floor (s.floor_updHandler h rfl)).thenFloor (State.floor_readyCheck _ _)) hs
  | tempReached _ h u =>
    refine ((Leads.of_floor (s.floor_updHandler h ?_)).thenFloor (State.floor_readyCheck _ _)) hs
    unfold Handler.reach
    split <;> rfl
  | tempLost _ h => exact ((Leads.of_floor (s.floor_updHandler h rfl)).trans (.holdThermal h)) hs
  | testerEnable | testerDisable | testerClear => exact Leads.refl s hs
  | stageProgram _ u p => exact Leads.of_floor (s.floor_startLoad u p 1) hs
  | programLoaded _ u g => exact ((Leads.of_floor (s.floor_updTester u _)).trans (.loadEnded u)) hs
  | abortReserved _ u k =>
    exact (((Leads.of_floor (s.floor_updTester u _)).trans (.cancelReservation k false)).trans (.loadEnded u)) hs
  | abortFree _ u => exact ((Leads.of_floor (s.floor_updTester u _)).trans (.loadEnded u)) hs
  | deviationSet _ d e hfree hpending hremaining =>
    exact Leads.of_floor (State.floor_updDeviation d _ (by rw [hfree]; exact hpending)) hs
  | deviationClear _ d e hentry hpending =>
    exact Leads.of_floor (State.floor_updDeviation d _ (by rw [hentry]; exact hpending.symm)) hs
  | touchdown _ h l g index n results => exact Leads.acceptTouchdown h l g index n results hs
  | siteEnable _ h c i => exact Leads.of_floor (State.floor_enableSite h c i) hs
  | lotHold _ l i => exact Leads.placeHold l.slot .manual (some i) 0 hs
  | disposeContinue _ l r hl hheld => exact Leads.continueLot (inSlot hl) hheld r hs
  | disposeRescreen _ l hl hheld =>
    rw [hc.slots.rescreen_eq (inSlot hl)]
    exact Leads.enterQueue (inSlot hl) hheld rfl rfl hs
  | disposeScrap _ l hl hheld =>
    rw [hc.slots.updLot_eq (inSlot hl) Lot.scrap rfl]
    exact Leads.settles (x := l.scrap) (inSlot hl) hheld rfl rfl (.inr ⟨rfl, rfl⟩) rfl rfl rfl hs
  | drained _ h l hl hcurrent hdraining => exact Leads.drained (inSlot hl) hcurrent hs
  | lotEndorse _ l e hl hcomplete => exact Leads.endorse (inSlot hl) hcomplete e hs
  | endorseWithdraw _ l i hl hcomplete => exact Leads.withdraw (inSlot hl) hcomplete i hs
  | shipCollect _ l hl hreleased => exact Leads.collect (inSlot hl) hreleased hs

end Sys2Proof.Machine
end

section
/-! SUPPORT. Every event, and so every step, leads from a consistent floor to a consistent floor, and keeps the pending counts. -/

namespace Sys2Proof.Machine

variable {P : Prop} {s t : State} {l x : Lot} {h : HandlerId}

/-! ### The line reset -/

/-- Every lot goes off the handlers at once, every cell is emptied, and no reservation is left to count. -/
theorem Leads.swept (F : Lot → Lot) (hlots : t.lots = s.lots.map F) (hslot : ∀ l, (F l).slot = l.slot)
    (hseat : ∀ l, (F l).state.place.seat = none) (hreleased : ∀ l, (F l).state.place = .released ↔ l.state.place = .released)
    (hwaiting : ∀ l, (F l).state.place = .waiting → l.state.place = .waiting)
    (hholds : ∀ l, l.HoldsInState → (F l).holds ≠ [] → (F l).state.place = .held)
    (hcells : ∀ h : HandlerId, t.handlers[h].cell = .offline) (hqueue : t.releaseQueue = s.releaseQueue)
    (hpending : ∀ d, t.floor.pending d = 0) : Leads P s t := by
  intro hs
  have hc := s.consistent_iff.2 hs
  have hmem : ∀ p : Entry → Prop, (∃ e ∈ t.floor.roll, p e) ↔ ∃ l ∈ s.lots, p (F l).entry := fun p => by
    rw [State.mem_roll, hlots]
    simp
  have htq : t.floor.queue = s.floor.queue := congrArg (List.map _) hqueue
  refine ⟨⟨⟨t.floor_slots.2 ?_, fun h σ k => ?_, t.floor_holds.2 ?_, htq ▸ hs.1.length, htq ▸ hs.1.nodup, fun k => ?_⟩, fun hw => ?_⟩,
    fun _ _ d => ?_⟩
  · rw [slotsInOrder_iff, hlots, List.map_map]
    rw [show (fun l : Lot => l.slot) ∘ F = fun l => l.slot from funext hslot]
    exact (slotsInOrder_iff s).1 hc.slots
  · rw [hmem]
    show t.handlers[h].cell.load σ = some k ↔ _
    rw [hcells]
    refine ⟨fun hload => ?_, ?_⟩
    · cases σ <;> cases hload
    · rintro ⟨l, -, -, hl⟩
      rw [show (F l).entry.place.seat = none from hseat l] at hl
      cases hl
  · rw [hlots]
    intro y hy hne
    obtain ⟨l, hl, rfl⟩ := List.mem_map.1 hy
    exact .inl (LotState.place_held.1 (hholds l (hc.holds l hl) hne))
  · rw [htq, hmem, hs.1.queued, State.mem_roll]
    simp only [Lot.entry, hslot, hreleased]
  · obtain ⟨l, hl, hplace⟩ := (hmem _).1 hw
    rw [htq]
    exact hs.2 (State.mem_roll.2 ⟨l, hl, hwaiting l hplace⟩)
  · rw [hpending]
    refine List.countP_eq_zero.2 (fun e he => ?_)
    obtain ⟨y, hy, rfl⟩ := List.mem_map.1 (show e ∈ t.lots.map Lot.entry from he)
    rw [hlots] at hy
    obtain ⟨l, -, rfl⟩ := List.mem_map.1 hy
    show ¬ (F l).state.place.names d = true
    rw [Place.names_of_free (hseat l)]
    decide

/-- A lot after a line reset, INTERRUPTED first where it was on a handler. -/
def Lot.reset (time : Time) (l : Lot) : Lot := (if l.onHandler then l.interrupted time else l).afterLineReset time

theorem Lot.reset_onHandler (time : Time) (hon : l.onHandler = true) :
    (l.reset time).slot = l.slot ∧ (l.reset time).state = .held := by
  rw [Lot.reset, if_pos hon, Lot.afterLineReset_interrupted hon]
  exact ⟨rfl, rfl⟩

theorem Lot.reset_reserved (time : Time) {w : Wait} {r : Resolved} (hstate : l.state = .reserved w h r) :
    l.reset time = { l with state := .queued w } := by
  rw [Lot.reset, if_neg (by simp [Lot.onHandler, hstate, LotState.currentHandler?]), Lot.afterLineReset, hstate]

theorem Lot.reset_free (time : Time) (hseat : l.state.place.seat = none) : l.reset time = l := by
  have hoff : ¬ l.onHandler = true := by
    rw [Lot.onHandler]
    cases hstate : l.state with
    | running | draining => rw [hstate] at hseat; cases hseat
    | _ => simp [LotState.currentHandler?]
  rw [Lot.reset, if_neg hoff, Lot.afterLineReset]
  split
  · next hstate => rw [hstate] at hseat; cases hseat
  · next hstate => rw [hstate] at hseat; cases hseat
  · next hstate => rw [hstate] at hseat; cases hseat
  · rfl

/-- What a lot is after a line reset: HELD off its handler, QUEUED off its reservation, or as it was. -/
theorem Lot.reset_cases (time : Time) (l : Lot) :
    ((l.reset time).state = .held ∧ (l.reset time).slot = l.slot ∧ ∃ a, l.state.place.seat = some a) ∨
    (∃ w h r, l.state = .reserved w h r ∧ l.reset time = { l with state := .queued w }) ∨
    (l.state.place.seat = none ∧ l.reset time = l) := by
  cases hseat : l.state.place.seat with
  | none => exact .inr (.inr ⟨rfl, l.reset_free time hseat⟩)
  | some a =>
    obtain ⟨h, σ⟩ := a
    cases σ with
    | reserved =>
      obtain ⟨w, r, hstate⟩ := LotState.seat_reserved.1 hseat
      exact .inr (.inl ⟨w, h, r, hstate, l.reset_reserved time hstate⟩)
    | running =>
      obtain ⟨r, hstate⟩ := LotState.seat_running.1 hseat
      obtain ⟨hslot, hheld⟩ := l.reset_onHandler time (by rw [Lot.onHandler, hstate]; rfl)
      exact .inl ⟨hheld, hslot, _, rfl⟩
    | draining =>
      obtain ⟨r, c, hstate⟩ := LotState.seat_draining.1 hseat
      obtain ⟨hslot, hheld⟩ := l.reset_onHandler time (by rw [Lot.onHandler, hstate]; rfl)
      exact .inl ⟨hheld, hslot, _, rfl⟩

theorem Leads.lineReset : Leads P s s.lineReset := by
  intro hs
  have hc := s.consistent_iff.2 hs
  refine Leads.swept (Lot.reset s.floorTime) ?_ (fun l => ?_) (fun l => ?_) (fun l => ?_) (fun l hw => ?_) (fun l hin hne => ?_)
    (fun h => ?_) ?_ (fun d => ?_) hs
  · show (s.placeInterrupted.lots.map _) = _
    rw [hc.slots.placeInterrupted_eq, List.map_map]
    rfl
  · rcases l.reset_cases s.floorTime with ⟨-, hslot, -⟩ | ⟨w, h, r, -, he⟩ | ⟨-, he⟩
    · exact hslot
    · rw [he]
    · rw [he]
  · rcases l.reset_cases s.floorTime with ⟨hheld, -, -⟩ | ⟨w, h, r, -, he⟩ | ⟨hfree, he⟩
    · rw [hheld]; rfl
    · rw [he]; rfl
    · rw [he]; exact hfree
  · rcases l.reset_cases s.floorTime with ⟨hheld, -, a, ha⟩ | ⟨w, h, r, hstate, he⟩ | ⟨-, he⟩
    · rw [hheld]
      exact ⟨nofun, fun hr => by rw [hr] at ha; cases ha⟩
    · rw [he, hstate]; simp [LotState.place]
    · rw [he]
  · rcases l.reset_cases s.floorTime with ⟨hheld, -, -⟩ | ⟨w, h, r, -, he⟩ | ⟨-, he⟩
    · rw [hheld] at hw; cases hw
    · rw [he] at hw; cases hw
    · rwa [he] at hw
  · rcases l.reset_cases s.floorTime with ⟨hheld, -, -⟩ | ⟨w, h, r, hstate, he⟩ | ⟨hfree, he⟩
    · rw [hheld]; rfl
    · rw [he] at hne
      have := hin hne
      rw [hstate] at this
      rcases this with h | h <;> cases h
    · rw [he] at hne ⊢
      rcases hin hne with hh | hd
      · exact LotState.place_held.2 hh
      · obtain ⟨i, hi⟩ := LotState.place_draining.2 hd
        rw [hi] at hfree
        cases hfree
  · exact congrArg Handler.cell (vecMap_getElem_fin Handler.afterLineReset _ h)
  · show s.placeInterrupted.releaseQueue = _
    rw [hc.slots.placeInterrupted_eq]
  · have hdev : s.lineReset.deviations[d] = (s.placeInterrupted.deviations[d]).map (fun x => { x with pending := 0 }) :=
      vecMap_getElem_fin _ _ d
    show (Option.map _ (s.lineReset.deviations[d])).getD 0 = 0
    rw [hdev]
    cases s.placeInterrupted.deviations[d] <;> rfl

/-! ### Events -/

theorem Lot.tick_entry (l : Lot) : l.tick.entry = l.entry := by
  unfold Lot.tick
  split
  · next hstate => rw [Lot.entry, Lot.entry, hstate]; rfl
  · next hstate => rw [Lot.entry, Lot.entry, hstate]; rfl
  · rfl

theorem Leads.tick : Leads P s s.tick := by
  refine .of_floor ?_
  have hroll : (s.lots.map Lot.tick).map Lot.entry = s.lots.map Lot.entry := by
    rw [List.map_map]
    exact List.map_congr_left (fun l _ => l.tick_entry)
  have hloads : (fun h : HandlerId => (vecMap Handler.tick s.handlers)[h].cell.load) = fun h => s.handlers[h].cell.load :=
    funext (fun h => by rw [vecMap_getElem_fin]; rfl)
  unfold State.floor
  show Floor.mk _ _ _ _ = _
  rw [show s.tick.lots.map Lot.entry = s.lots.map Lot.entry from hroll,
    show (fun h : HandlerId => s.tick.handlers[h].cell.load) = fun h => s.handlers[h].cell.load from hloads]
  rfl

theorem Lot.stopCountdown_entry (l : Lot) : l.stopCountdown.entry = l.entry := by
  unfold Lot.stopCountdown
  split
  · next hstate => rw [Lot.entry, Lot.entry, hstate]; rfl
  · next hstate => rw [Lot.entry, Lot.entry, hstate]; rfl
  · rfl

theorem Leads.queueTimeExpiry (k : Slot) : Leads P s (s.queueTimeExpiry k) := by
  unfold State.queueTimeExpiry
  split
  · split
    · exact (Leads.of_floor (s.floor_updLot k Lot.stopCountdown_entry)).trans (.placeHold _ _ _ _)
    · exact .refl s
  · exact .refl s

theorem Leads.effect {c : Instr} (e : Effect c s t) (hP : P → s.DeviationsCovered) : Leads P s t := by
  cases e with
  | nothing => exact .refl s
  | answered _ k m r b _ u hrequest hroom hrefused haccepted =>
    by_cases hok : r = .ok
    · exact Leads.thenFloor (t := u) (Leads.trans (t := s.taken) (.of_floor rfl) (.work (haccepted hok) hP)) rfl
    · rw [hrefused hok]
      exact .of_floor rfl
  | link => exact .of_floor rfl
  | powerOn a b =>
    obtain ⟨-, -, -, -, -, -, -, hcounts, -, hconsistent⟩ := conditionsHoldAtReset
    exact fun _ => ⟨State.reset.consistent_iff.1 hconsistent, fun _ _ => State.reset.pendingCounts_iff.1 hcounts⟩
  | lineReset => exact .lineReset
  | release => exact .of_floor rfl
  | tick => exact .tick
  | queueTime k => exact .queueTimeExpiry k
  | soak h =>
    unfold State.soakExpiry
    split
    · exact (Leads.of_floor (s.floor_updHandler h rfl)).thenFloor (State.floor_readyCheck _ _)
    · exact .refl s
  | deadline u =>
    unfold State.deadlineExpiry
    split
    · split
      · exact (Leads.of_floor (s.floor_updTester u _)).trans (.loadEnded u)
      · exact .refl s
    · exact .refl s
  | stall h =>
    unfold State.stallExpiry
    split
    · exact ((Leads.of_floor (s.floor_updHandler h rfl)).thenFloor (State.floor_markBound _ _ _ _)).thenFloor
        (State.floor_markRoles _ _ _ _)
    · exact .refl s

theorem Leads.step (e : step s = .next t) (hP : P → s.DeviationsCovered) : Leads P s t := by
  rcases step_cases e with rfl | ⟨c, rest, -, hexec⟩
  · exact .refl _
  · exact Leads.trans (t := { s with pending := rest }) (.of_floor rfl) (.effect (exec_effect hexec) hP)

/-- Settles O60, on the floor that a state shows: a step moves one lot at most on one handler, or releases, recalls or collects one. -/
theorem stepKeepsConsistent : Obligations.StepKeepsConsistent := fun s t e hs =>
  t.consistent_iff.2 (Leads.step (P := False) e False.elim (s.consistent_iff.1 hs)).1

/-- Settles O58: the counters by block, the counts by change, and the pending counts on the floor. -/
theorem stepKeepsCounts : Obligations.StepKeepsCounts := by
  refine ⟨fun s t e => ⟨step_keeps_countersInRange e, countsAgree_kept.step e⟩, fun s t e => deviationsCovered_kept.step e,
    fun s t e hs hcovered hpending => ?_⟩
  exact t.pendingCounts_iff.2 ((Leads.step (P := s.DeviationsCovered) e id (s.consistent_iff.1 hs)).2 hcovered
    (s.pendingCounts_iff.1 hpending))

end Sys2Proof.Machine
end

section
/-! SUPPORT. What a request of a kind, and an event, leaves of the tables: posts, guards, deviation entries, lot ids and stamps,
change by change. -/

namespace Sys2Proof.Machine

variable {s t u : State} {k : Kind}

/-! ### Changes of a kind -/

/-- What a request of a kind keeps besides its own tables. -/
structure Kind.Keeps (k : Kind) (s t : State) : Prop where
  posts : k.KeepsPosts s t
  entries : k ∉ [.deviationSet, .deviationClear, .lotBegin] →
    ∀ d : DevId, (t.deviations[d]).map (fun e => { e with pending := 0 }) = (s.deviations[d]).map (fun e => { e with pending := 0 })
  arrived : k ∉ [.lotRegister] → ∀ l ∈ t.lots, ∃ x ∈ s.lots, x.id = l.id
  gone : k ∉ [.lotPurge, .shipCollect] → ∀ l ∈ s.lots, ∃ x ∈ t.lots, x.id = l.id
  stamps : k ∉ [.lotRegister, .lotEnd, .lotDispose] → t.stampCounter = s.stampCounter
  waitings : k ∉ [.lotEndorse] → t.waitingCounter = s.waitingCounter

theorem Kind.Keeps.refl (k : Kind) (s : State) : k.Keeps s s :=
  ⟨.of_tables k rfl rfl rfl, fun _ _ => rfl, fun _ l hl => ⟨l, hl, rfl⟩, fun _ l hl => ⟨l, hl, rfl⟩, fun _ => rfl, fun _ => rfl⟩

theorem Kind.Keeps.trans (a : k.Keeps s t) (b : k.Keeps t u) : k.Keeps s u where
  posts := a.posts.trans k b.posts
  entries hk d := (b.entries hk d).trans (a.entries hk d)
  arrived hk l hl := by
    obtain ⟨x, hx, hid⟩ := b.arrived hk l hl
    obtain ⟨y, hy, hid'⟩ := a.arrived hk x hx
    exact ⟨y, hy, hid'.trans hid⟩
  gone hk l hl := by
    obtain ⟨x, hx, hid⟩ := a.gone hk l hl
    obtain ⟨y, hy, hid'⟩ := b.gone hk x hx
    exact ⟨y, hy, hid'.trans hid⟩
  stamps hk := (b.stamps hk).trans (a.stamps hk)
  waitings hk := (b.waitings hk).trans (a.waitings hk)

/-- A change that writes neither lots, deviation entries nor stamp counters. -/
theorem Kind.Keeps.of_posts (h : k.KeepsPosts s t) (hlots : t.lots = s.lots) (hdev : t.deviations = s.deviations)
    (hstamp : t.stampCounter = s.stampCounter) (hwaiting : t.waitingCounter = s.waitingCounter) : k.Keeps s t :=
  ⟨h, fun _ d => by rw [hdev], fun _ l hl => ⟨l, hlots ▸ hl, rfl⟩, fun _ l hl => ⟨l, hlots ▸ hl, rfl⟩, fun _ => hstamp, fun _ => hwaiting⟩

/-- Lots rewritten one by one keep their ids. -/
theorem Kind.Keeps.of_lots (f : Lot → Lot) (hid : ∀ x, (f x).id = x.id) (hlots : t.lots = s.lots.map f) (h : k.KeepsPosts s t)
    (hdev : t.deviations = s.deviations) (hstamp : t.stampCounter = s.stampCounter) (hwaiting : t.waitingCounter = s.waitingCounter) :
    k.Keeps s t := by
  refine ⟨h, fun _ d => by rw [hdev], fun _ l hl => ?_, fun _ l hl => ⟨f l, ?_, hid l⟩, fun _ => hstamp, fun _ => hwaiting⟩
  · rw [hlots] at hl
    obtain ⟨x, hx, rfl⟩ := List.mem_map.1 hl
    exact ⟨x, hx, (hid x).symm⟩
  · rw [hlots]
    exact List.mem_map_of_mem hl

/-- A deviation entry written: its kind's own where more than the pending count changes. -/
theorem Kind.Keeps.updDeviation (k : Kind) (s : State) (d : DevId) (f : Option Deviation → Option Deviation)
    (hf : k ∉ [.deviationSet, .deviationClear, .lotBegin] →
      (f s.deviations[d]).map (fun e => { e with pending := 0 }) = (s.deviations[d]).map (fun e => { e with pending := 0 })) :
    k.Keeps s (s.updDeviation d f) := by
  refine ⟨.of_tables k rfl rfl rfl, fun hk i => ?_, fun _ l hl => ⟨l, hl, rfl⟩, fun _ l hl => ⟨l, hl, rfl⟩, fun _ => rfl, fun _ => rfl⟩
  rw [State.updDeviation_deviations, set_getElem_fin]
  split
  · next h => subst h; exact hf hk
  · rfl

theorem Minor.keeps (k : Kind) (h : Minor s t) : k.Keeps s t := by
  have hposts := h.keepsPosts k
  cases h with
  | lot j f hname =>
    refine .of_lots (fun x => if x.slot = j then f x else x) (fun x => ?_) rfl hposts rfl rfl rfl
    split
    · exact (hname x).2
    · rfl
  | pending d f =>
    refine .updDeviation k s d _ (fun _ => ?_)
    rw [Option.map_map]
    rfl
  | mark | markRoles | handler | tester | releaseQueue => exact .of_posts hposts rfl rfl rfl rfl

theorem Own.keeps (h : Own k s t) : k.Keeps s t := by
  have hposts := h.keepsPosts
  cases h with
  | enroll _ i rs new =>
    obtain ⟨hs, h⟩ := s.bind_frame i s.stations[i].bound new
    exact .of_posts hposts (by rw [h]; rfl) (by rw [h]; rfl) (by rw [h]; rfl) (by rw [h]; rfl)
  | remove _ i =>
    obtain ⟨hs, h⟩ := s.bind_frame i s.stations[i].bound none
    exact .of_posts hposts (by rw [h]; rfl) (by rw [h]; rfl) (by rw [h]; rfl) (by rw [h]; rfl)
  | readAttention | mask | base | config | kit | dock | undock | lock | tester | swap | withdraw | guards =>
    exact .of_posts hposts rfl rfl rfl rfl
  | register _ j id p quantity priority =>
    refine ⟨hposts, fun _ _ => rfl, fun hk => absurd (List.mem_singleton.2 rfl) hk, fun _ l hl => ⟨l, ?_, rfl⟩, fun _ => rfl, fun _ => rfl⟩
    exact mem_insertLot.2 (.inr hl)
  | drop _ _ j hk =>
    exact ⟨hposts, fun _ _ => rfl, fun _ l hl => ⟨l, (List.mem_filter.1 hl).1, rfl⟩, fun hn => absurd hk hn, fun _ => rfl, fun _ => rfl⟩
  | setDeviation _ d e => exact .updDeviation _ s d _ (fun hk => absurd (by decide) hk)
  | clearDeviation _ d => exact .updDeviation _ s d _ (fun hk => absurd (by decide) hk)
  | useDeviation _ d =>
    unfold State.useDeviation
    split
    · exact .updDeviation _ s _ _ (fun hk => absurd (by decide) hk)
    · exact .refl _ s
  | stamp _ _ hk =>
    exact ⟨hposts, fun _ _ => rfl, fun _ l hl => ⟨l, hl, rfl⟩, fun _ l hl => ⟨l, hl, rfl⟩, fun hn => absurd hk hn, fun _ => rfl⟩
  | waitStamp =>
    exact ⟨hposts, fun _ _ => rfl, fun _ l hl => ⟨l, hl, rfl⟩, fun _ l hl => ⟨l, hl, rfl⟩, fun _ => rfl,
      fun hn => absurd (List.mem_singleton.2 rfl) hn⟩

theorem Work.keeps (w : Work k s t) : k.Keeps s t := by
  have hchanges := w.changes
  clear w
  induction hchanges with
  | refl => exact .refl k s
  | tail _ hbc ih => exact ih.trans (hbc.elim (Minor.keeps k) Own.keeps)

/-- A guard's run is written by the requests that begin, count, clear or end one. -/
theorem Work.keeps_guards (w : Work k s t) (hk : k ∉ [.lotBegin, .touchdown, .siteEnable, .lotEnd, .drained]) : t.guards = s.guards := by
  have hchanges := w.changes
  clear w
  induction hchanges with
  | refl => rfl
  | @tail a b _ hbc ih =>
    refine Eq.trans ?_ ih
    rcases hbc with hminor | hown
    · cases hminor <;> rfl
    · cases hown with
      | guards _ _ _ hg => exact absurd hg hk
      | enroll _ i rs new =>
        obtain ⟨hs, h⟩ := a.bind_frame i a.stations[i].bound new
        rw [h]
        rfl
      | remove _ i =>
        obtain ⟨hs, h⟩ := a.bind_frame i a.stations[i].bound none
        rw [h]
        rfl
      | useDeviation _ d =>
        obtain ⟨ds, h⟩ := a.useDeviation_frame d
        rw [h]
      | _ => rfl

/-! ### Events -/

theorem Sweep.keeps (k : Kind) (h : Sweep s t) : k.Keeps s t := by
  have hposts := h.keepsPosts k
  cases h with
  | lots f hname => exact .of_lots f (fun x => (hname x).2) rfl hposts rfl rfl rfl
  | pending =>
    refine ⟨hposts, fun _ d => ?_, fun _ l hl => ⟨l, hl, rfl⟩, fun _ l hl => ⟨l, hl, rfl⟩, fun _ => rfl, fun _ => rfl⟩
    rw [vecMap_getElem_fin, Option.map_map]
    rfl
  | handlers | testers | guards | frame => exact .of_posts hposts rfl rfl rfl rfl

/-- A chain of minor changes and of changes of a whole table. -/
abbrev Sweeps : State → State → Prop := Relation.ReflTransGen (fun s t => Minor s t ∨ Sweep s t)

theorem Minors.sweeps (h : Minors s t) : Sweeps s t := Relation.ReflTransGen.mono (fun _ _ => Or.inl) s t h

theorem Sweep.sweeps (h : Sweep s t) : Sweeps s t := .single (.inr h)

theorem Sweeps.keeps (k : Kind) (h : Sweeps s t) : k.Keeps s t := by
  induction h with
  | refl => exact .refl k s
  | tail _ hbc ih => exact ih.trans (hbc.elim (Minor.keeps k) (Sweep.keeps k))

theorem sweeps_tick (s : State) : Sweeps s s.tick := by
  refine (Sweep.lots s Lot.tick Lot.tick_name (fun _ => Lot.tick_countsOk) (fun _ => Lot.tick_letGo)).sweeps.trans ?_
  refine (Sweep.handlers _ Handler.tick (by intro; exact ⟨rfl, rfl, rfl, rfl, rfl⟩)).sweeps.trans ?_
  refine (Sweep.testers _ (fun t => { t with staged := t.staged.map Staged.tick }) (by intro; exact ⟨rfl, rfl, rfl⟩)).sweeps.trans ?_
  exact (Sweep.frame _ (s.floorTime + 1) 0 s.link s.resetCause s.lineResets s.inReset s.pending).sweeps

theorem sweeps_lineReset (s : State) : Sweeps s s.lineReset := by
  refine (minors_placeInterrupted s).sweeps.trans ?_
  refine (Sweep.lots _ (Lot.afterLineReset s.floorTime) (Lot.afterLineReset_name _)
    (fun _ => Lot.afterLineReset_countsOk _) (fun _ => Lot.afterLineReset_letGo _)).sweeps.trans ?_
  refine (Sweep.handlers _ Handler.afterLineReset (by intro; exact ⟨rfl, rfl, rfl, rfl, rfl⟩)).sweeps.trans ?_
  refine (Sweep.testers _ (fun t => { t with staged := none }) (by intro; exact ⟨rfl, rfl, rfl⟩)).sweeps.trans ?_
  refine (Sweep.pending _).sweeps.trans ((Sweep.guards _ (Vector.replicate 16 none)).sweeps.trans ?_)
  exact (Sweep.frame _ s.placeInterrupted.floorTime s.placeInterrupted.divider s.placeInterrupted.link.afterLineReset .line
    (holdAt Config.lineResetMax (s.placeInterrupted.lineResets + 1)) true s.placeInterrupted.pending).sweeps

theorem sweeps_leaveReset (s : State) (a b : Bool) : Sweeps s (s.leaveReset a b) :=
  (Minor.one (.markRoles s Role.all .partReset 0)).sweeps.trans
    (Sweep.frame _ s.floorTime 0 { s.link with bitRate := bitRateOf a b } s.resetCause s.lineResets false s.pending).sweeps

theorem Sweeps.link (s : State) (l : Link) : Sweeps s { s with link := l } :=
  (Sweep.frame s s.floorTime s.divider l s.resetCause s.lineResets s.inReset s.pending).sweeps

/-- Requests of the kinds in a list. -/
def Asks (c : Instr) (ks : List Kind) : Prop := ∃ k m, c.request? = some (k, m) ∧ k ∈ ks

/-- A command other than a power-on keeps what some kind keeps: its own where it is a request, and otherwise one that no list of
tables names. -/
theorem Effect.keeps {c : Instr} (e : Effect c s t) (hpower : ∀ a b, c ≠ .powerOnReset a b) :
    ∃ k : Kind, k.Keeps s t ∧ ∀ ks, Kind.partStatus ∉ ks → k ∈ ks → Asks c ks := by
  have event : Sweeps s t → ∃ k : Kind, k.Keeps s t ∧ ∀ ks, Kind.partStatus ∉ ks → k ∈ ks → Asks c ks :=
    fun h => ⟨.partStatus, h.keeps .partStatus, fun ks hn hk => absurd hk hn⟩
  cases e with
  | nothing => exact event .refl
  | answered _ k m r b _ u hrequest hroom hrefused haccepted =>
    refine ⟨k, ?_, fun ks _ hk => ⟨k, m, hrequest, hk⟩⟩
    have hwork : k.Keeps s.taken u := by
      by_cases hok : r = .ok
      · exact (haccepted hok).keeps
      · rw [hrefused hok]
        exact .refl k _
    exact ((Sweeps.link s _).keeps k).trans (hwork.trans ((Sweeps.link u _).keeps k))
  | link _ _ l => exact event (Sweeps.link s l)
  | powerOn a b => exact absurd rfl (hpower a b)
  | lineReset => exact event (sweeps_lineReset s)
  | release a b => exact event (sweeps_leaveReset s a b)
  | tick => exact event (sweeps_tick s)
  | queueTime j => exact event (minors_queueTimeExpiry s j).sweeps
  | soak h => exact event (minors_soakExpiry s h).sweeps
  | deadline v => exact event (minors_deadlineExpiry s v).sweeps
  | stall h => exact event (minors_stallExpiry s h).sweeps

/-! ### The tables outside the floor -/

/-- What a command other than a power-on may change of products, library, settings, floor time and reset record. -/
structure BaseChangedBy (c : Instr) (s t : State) : Prop where
  products : t.products ≠ s.products → Asks c [.productDefine, .productRemove]
  library : t.library ≠ s.library → Asks c [.programDefine, .programWithdraw, .programRemove]
  settings : t.settings ≠ s.settings → Asks c [.dispatchConfig]
  floorTime : t.floorTime ≠ s.floorTime → c = .secondTick ∨ Asks c [.timeSet]
  reset : t.lineResets ≠ s.lineResets ∨ t.resetCause ≠ s.resetCause → c = .lineReset

theorem BaseChangedBy.of_base {c : Instr} {v : State} (h : v.base = s.base) (hproducts : t.products = v.products)
    (hlibrary : t.library = v.library) (hsettings : t.settings = v.settings) (htime : t.floorTime = v.floorTime)
    (hresets : t.lineResets = v.lineResets) (hcause : t.resetCause = v.resetCause) : BaseChangedBy c s t := by
  simp only [State.base, Prod.mk.injEq] at h
  obtain ⟨h1, h2, h3, h4, -, -, h7, h8, -, -⟩ := h
  exact ⟨fun h => absurd (hproducts.trans h1) h, fun h => absurd (hlibrary.trans h2) h, fun h => absurd (hsettings.trans h3) h,
    fun h => absurd (htime.trans h4) h, fun h => h.elim (absurd (hresets.trans h8)) (absurd (hcause.trans h7))⟩

theorem Work.changesBase {c : Instr} {m : Msg} (w : Work k s.taken u) (hrequest : c.request? = some (k, m)) (r : Result) (b : Body) :
    BaseChangedBy c s (u.answered m k r b) := by
  have asks : ∀ {ks}, k ∈ ks → Asks c ks := fun hk => ⟨k, m, hrequest, hk⟩
  cases w.baseChange with
  | same _ _ _ h =>
    simp only [State.base, Prod.mk.injEq] at h
    obtain ⟨h1, h2, h3, h4, -, -, h7, h8, -, -⟩ := h
    exact ⟨fun h => absurd h1 h, fun h => absurd h2 h, fun h => absurd h3 h, fun h => absurd h4 h,
      fun h => h.elim (absurd h8) (absurd h7)⟩
  | products _ _ i p hk =>
    exact ⟨fun _ => asks hk, fun h => absurd rfl h, fun h => absurd rfl h, fun h => absurd rfl h, fun h => h.elim (absurd rfl) (absurd rfl)⟩
  | library _ _ _ i e hk h =>
    simp only [State.base, Prod.mk.injEq] at h
    obtain ⟨h1, -, h3, h4, -, -, h7, h8, -, -⟩ := h
    exact ⟨fun h => absurd h1 h, fun _ => asks hk, fun h => absurd h3 h, fun h => absurd h4 h, fun h => h.elim (absurd h8) (absurd h7)⟩
  | settings _ x =>
    exact ⟨fun h => absurd rfl h, fun h => absurd rfl h, fun _ => asks (by decide), fun h => absurd rfl h,
      fun h => h.elim (absurd rfl) (absurd rfl)⟩
  | floorTime _ x =>
    exact ⟨fun h => absurd rfl h, fun h => absurd rfl h, fun h => absurd rfl h, fun _ => .inr (asks (by decide)),
      fun h => h.elim (absurd rfl) (absurd rfl)⟩

theorem Effect.changesBase {c : Instr} (e : Effect c s t) (hpower : ∀ a b, c ≠ .powerOnReset a b) : BaseChangedBy c s t := by
  cases e with
  | nothing => exact .of_base (v := s) rfl rfl rfl rfl rfl rfl rfl
  | answered _ k m r b _ u hrequest hroom hrefused haccepted =>
    by_cases hok : r = .ok
    · exact (haccepted hok).changesBase hrequest r b
    · rw [hrefused hok]
      exact .of_base (v := s) rfl rfl rfl rfl rfl rfl rfl
  | link => exact .of_base (v := s) rfl rfl rfl rfl rfl rfl rfl
  | powerOn a b => exact absurd rfl (hpower a b)
  | lineReset =>
    obtain ⟨ls, ss, h⟩ := s.placeInterrupted_frame
    have hbase : s.placeInterrupted.base = s.base := by rw [h]; rfl
    simp only [State.base, Prod.mk.injEq] at hbase
    obtain ⟨h1, h2, h3, h4, -⟩ := hbase
    exact ⟨fun h => absurd h1 h, fun h => absurd h2 h, fun h => absurd h3 h, fun h => absurd h4 h, fun _ => rfl⟩
  | release => exact .of_base (v := s) rfl rfl rfl rfl rfl rfl rfl
  | tick =>
    exact ⟨fun h => absurd rfl h, fun h => absurd rfl h, fun h => absurd rfl h, fun _ => .inl rfl, fun h => h.elim (absurd rfl) (absurd rfl)⟩
  | queueTime j => exact .of_base (v := s.queueTimeExpiry j) (s.queueTimeExpiry_base j) rfl rfl rfl rfl rfl rfl
  | soak h => exact .of_base (v := s.soakExpiry h) (s.soakExpiry_base h) rfl rfl rfl rfl rfl rfl
  | deadline v => exact .of_base (v := s.deadlineExpiry v) (s.deadlineExpiry_base v) rfl rfl rfl rfl rfl rfl
  | stall h => exact .of_base (v := s.stallExpiry h) (s.stallExpiry_base h) rfl rfl rfl rfl rfl rfl

/-! ### Stamps -/

theorem State.proceed_stamp (s : State) (j : Slot) :
    (s.proceed j).stampCounter = s.stampCounter ∨ (s.proceed j).stampCounter = nextStamp s.stampCounter := by
  unfold State.proceed
  split
  · exact .inl rfl
  · split
    · exact .inr rfl
    · obtain ⟨ss, h⟩ := (s.setLotState j (.complete none)).markComplete_frame ‹Lot›
      rw [h]
      exact .inl rfl

theorem State.afterClose_stamp (s : State) (j : Slot) :
    (s.afterClose j).stampCounter = s.stampCounter ∨ (s.afterClose j).stampCounter = nextStamp s.stampCounter := by
  unfold State.afterClose
  split
  · exact .inl rfl
  · split
    · exact s.proceed_stamp j
    · exact .inl rfl

theorem State.continueLot_stamp (s : State) (j : Slot) (r : HoldReason) :
    (s.continueLot j r).stampCounter = s.stampCounter ∨ (s.continueLot j r).stampCounter = nextStamp s.stampCounter := by
  unfold State.continueLot State.afterContinue
  split
  · exact .inl rfl
  · split
    · exact .inl rfl
    · split
      · exact (s.updLot j (Lot.clearHold r)).proceed_stamp j
      · split
        · exact .inr rfl
        · obtain ⟨ls, ss, h⟩ := (s.updLot j (Lot.clearHold r)).addHold_frame j .runLimit none 0
          rw [h]
          exact .inl rfl

/-- A request gives one queue stamp at most. -/
theorem Work.stamps (w : Work k s t) : t.stampCounter = s.stampCounter ∨ t.stampCounter = nextStamp s.stampCounter := by
  by_cases hk : k ∉ [.lotRegister, .lotEnd, .lotDispose]
  · exact .inl (w.keeps.stamps hk)
  · cases w with
    | lotRegister => exact .inr rfl
    | lotEnd _ h l =>
      obtain ⟨gs, hs, ss, h⟩ := ((s.closeStep l).1.afterClose l.slot).leaveHandler_frame h
      rw [h]
      obtain ⟨ls, ss, hclose⟩ := s.closeStep_frame l
      have hstamp := (s.closeStep l).1.afterClose_stamp l.slot
      rw [show (s.closeStep l).1.stampCounter = s.stampCounter from by rw [hclose]] at hstamp
      exact hstamp
    | disposeContinue _ l r => exact s.continueLot_stamp l.slot r
    | disposeRescreen => exact .inr rfl
    | disposeScrap => exact .inl rfl
    | same => exact .inl rfl
    | _ => exact absurd (by decide) hk

theorem State.endorse_waiting (s : State) (l : Lot) (e : Endorsement) :
    (s.endorse l e).state.waitingCounter = s.waitingCounter ∨
      (s.endorse l e).state.waitingCounter = nextStamp s.waitingCounter := by
  unfold State.endorse State.lastEndorsement
  dsimp only
  split
  · split
    · exact .inl rfl
    · exact .inr rfl
  · exact .inl rfl

/-- A request gives one release-waiting stamp at most. -/
theorem Work.waitings (w : Work k s t) : t.waitingCounter = s.waitingCounter ∨ t.waitingCounter = nextStamp s.waitingCounter := by
  by_cases hk : k ∉ [.lotEndorse]
  · exact .inl (w.keeps.waitings hk)
  · cases w with
    | lotEndorse _ l e => exact s.endorse_waiting l e
    | same => exact .inl rfl
    | _ => exact absurd (by decide) hk

end Sys2Proof.Machine
end

section
/-! SUPPORT. Deviation entries, guards and the release queue: which commands write them, and O54. -/

namespace Sys2Proof.Machine

variable {s t u : State} {k : Kind} {l : Lot}

/-! ### Deviation entries -/

/-- The requests that write a deviation entry, or make or cancel a reservation. -/
def deviationKinds : List Kind :=
  [.deviationSet, .deviationClear, .lotBegin, .callWork, .touchdown, .lotHold, .handlerOffline, .stageAbort, .programLoaded,
    .programWithdraw, .tempLost]

theorem Work.keeps_deviations (w : Work k s t) (hk : k ∉ deviationKinds) : t.deviations = s.deviations := by
  cases w with
  | same | attentionRead | attentionMask | timeSet | lotRegister | lotPurge | productDefine | productRemove | programDefine
    | programRemove | lotPriority | dispatchConfig | handlerConfig | handlerOnline | dock | undock | handlerLock | handlerUnlock
    | testerEnable | testerDisable | testerClear | siteEnable | disposeRescreen | disposeScrap | endorseWithdraw => rfl
  | stationEnroll _ i rs new =>
    obtain ⟨hs, h⟩ := s.bind_frame i s.stations[i].bound new
    rw [h]
    rfl
  | stationRemove _ i =>
    obtain ⟨hs, h⟩ := s.bind_frame i s.stations[i].bound none
    rw [h]
    rfl
  | lotEnd _ h l =>
    obtain ⟨gs, hs, ss, hleave⟩ := ((s.closeStep l).1.afterClose l.slot).leaveHandler_frame h
    obtain ⟨ls, n, ss', hafter⟩ := (s.closeStep l).1.afterClose_frame l.slot
    obtain ⟨ls', ss'', hclose⟩ := s.closeStep_frame l
    rw [hleave, hafter, hclose]
  | kitInstalled _ h | tempReached _ h =>
    obtain ⟨hs, ss, h⟩ := State.readyCheck_frame (s.updHandler h _) h
    rw [h]
    rfl
  | stageProgram _ v p =>
    obtain ⟨ts, ss, h⟩ := s.startLoad_frame v p 1
    rw [h]
  | disposeContinue _ l r =>
    obtain ⟨ls, n, ss, h⟩ := s.continueLot_frame l.slot r
    rw [h]
  | drained _ h l =>
    obtain ⟨gs, hs, ss, h⟩ := (s.heldFromDrain l.slot).leaveHandler_frame h
    rw [h]
    rfl
  | lotEndorse _ l e =>
    unfold State.endorse State.lastEndorsement
    dsimp only
    split
    · split <;> rfl
    · rfl
  | shipCollect _ l =>
    obtain ⟨ls, rq, ss, h⟩ := s.collect_frame l.slot
    rw [h]
  | _ => exact absurd (by decide) hk

theorem Effect.changesDeviations {c : Instr} (e : Effect c s t) (hpower : ∀ a b, c ≠ .powerOnReset a b)
    (hne : t.deviations ≠ s.deviations) :
    c = .lineReset ∨ (∃ j, c = .queueTimeExpiry j) ∨ (∃ v, c = .stagingDeadlineExpiry v) ∨ Asks c deviationKinds := by
  cases e with
  | answered _ k m r b _ u hrequest hroom hrefused haccepted =>
    by_cases hok : r = .ok
    · exact .inr (.inr (.inr ⟨k, m, hrequest, by_contra fun hk => hne ((haccepted hok).keeps_deviations hk)⟩))
    · rw [hrefused hok] at hne
      exact absurd rfl hne
  | powerOn a b => exact absurd rfl (hpower a b)
  | lineReset => exact .inl rfl
  | queueTime j => exact .inr (.inl ⟨j, rfl⟩)
  | deadline v => exact .inr (.inr (.inl ⟨v, rfl⟩))
  | soak h =>
    refine absurd ?_ hne
    unfold State.soakExpiry
    split
    · obtain ⟨hs, ss, hready⟩ := (s.updHandler h (fun x => { x with thermal := .atTemp })).readyCheck_frame h
      rw [hready]
      rfl
    · rfl
  | stall h =>
    refine absurd ?_ hne
    unfold State.stallExpiry
    split
    · obtain ⟨ss, hmark⟩ := (s.updHandler h (fun x => { x with stalled := true })).markBound_frame h .stalled (unitBit h)
      rw [hmark]
      rfl
    · rfl
  | nothing | link | release | tick => exact absurd rfl hne

/-! ### Guards -/

theorem Minors.guards (h : Minors s t) : t.guards = s.guards := by
  induction h with
  | refl => rfl
  | tail _ hbc ih => exact Eq.trans (by cases hbc <;> rfl) ih

theorem Effect.changesGuards {c : Instr} (e : Effect c s t) (hpower : ∀ a b, c ≠ .powerOnReset a b) (hne : t.guards ≠ s.guards) :
    c = .lineReset ∨ Asks c [.lotBegin, .touchdown, .siteEnable, .lotEnd, .drained] := by
  cases e with
  | answered _ k m r b _ u hrequest hroom hrefused haccepted =>
    by_cases hok : r = .ok
    · exact .inr ⟨k, m, hrequest, by_contra fun hk => hne ((haccepted hok).keeps_guards hk)⟩
    · rw [hrefused hok] at hne
      exact absurd rfl hne
  | powerOn a b => exact absurd rfl (hpower a b)
  | lineReset => exact .inl rfl
  | queueTime j => exact absurd (minors_queueTimeExpiry s j).guards hne
  | soak h => exact absurd (minors_soakExpiry s h).guards hne
  | deadline v => exact absurd (minors_deadlineExpiry s v).guards hne
  | stall h => exact absurd (minors_stallExpiry s h).guards hne
  | nothing | link | release | tick => exact absurd rfl hne

/-! ### The release queue on a consistent floor -/

/-- From a consistent floor the change leads to a consistent one, and leaves the release queue. -/
def Quiet (s t : State) : Prop := s.Consistent → t.Consistent ∧ t.releaseQueue = s.releaseQueue

theorem Quiet.trans (a : Quiet s t) (b : Quiet t u) : Quiet s u := fun hs =>
  ⟨(b (a hs).1).1, (b (a hs).1).2.trans (a hs).2⟩

theorem Quiet.of_leads (h : Leads False s t) (hqueue : s.Consistent → t.releaseQueue = s.releaseQueue) : Quiet s t := fun hs =>
  ⟨t.consistent_iff.2 (h hs.floor).1, hqueue hs⟩

theorem Quiet.foldl {α : Type} {f : State → α → State} (hf : ∀ s a, Quiet s (f s a)) (as : List α) (s : State) :
    Quiet s (as.foldl f s) := by
  induction as generalizing s with
  | nil => exact fun hs => ⟨hs, rfl⟩
  | cons a as ih => exact (hf s a).trans (ih (f s a))

/-- Slots in order, and the lot of a slot, if any, is not RELEASED. -/
def State.Unreleased (s : State) (j : Slot) : Prop := s.SlotsInOrder ∧ ∀ l, s.lot? j = some l → l.state ≠ .released

theorem State.Unreleased.placeHold_queue {j : Slot} (h : s.Unreleased j) (r : HoldReason) (who : Option StationId) (gs : BitVec 4) :
    (s.placeHold j r who gs).1.releaseQueue = s.releaseQueue := by
  obtain ⟨hs, hnot⟩ := h
  cases hl : s.lot? j with
  | none => rw [State.placeHold, hl]
  | some l =>
    obtain rfl : l.slot = j := State.lot?_slot hl
    by_cases hno : l.hasHold r = true ∨ l.state = .scrapped
    · rw [State.placeHold_refused who gs hl hno]
    · obtain ⟨hfresh, hlive⟩ := not_or.1 hno
      rw [hs.placeHold_eq who gs hl (Bool.eq_false_iff.2 hfresh) hlive]
      dsimp only
      split
      · rfl
      · obtain ⟨ls, hs, ds, ss, h⟩ := (s.holdMarked.putLot (l.withHold ⟨r, s.floorTime, who, gs⟩)).cancelReservation_frame l.slot true
        rw [h]
        rfl
      · next h q _ =>
        obtain ⟨ls, hs, ss, h⟩ := (s.holdMarked.putLot (l.withHold ⟨r, s.floorTime, who, gs⟩)).startDrain_frame l.slot h q r
        rw [h]
        rfl
      · rfl
      · next hreleased => exact absurd hreleased (hnot l hl)
      · rfl

theorem LotState.afterHold_unreleased {x : LotState} (r : HoldReason) : x.afterHold r ≠ .released := by
  cases x <;> simp [LotState.afterHold]

theorem State.Unreleased.placeHold {j : Slot} (h : s.Unreleased j) (r : HoldReason) (who : Option StationId) (gs : BitVec 4) :
    (s.placeHold j r who gs).1.Unreleased j := by
  obtain ⟨hs, hnot⟩ := h
  refine ⟨(minors_placeHold s j r who gs).slotsInOrder hs, fun x hx => ?_⟩
  cases hl : s.lot? j with
  | none =>
    rw [State.placeHold, hl] at hx
    exact hnot x hx
  | some l =>
    obtain rfl : l.slot = j := State.lot?_slot hl
    by_cases hno : l.hasHold r = true ∨ l.state = .scrapped
    · rw [State.placeHold_refused who gs hl hno] at hx
      exact hnot x hx
    · obtain ⟨hfresh, hlive⟩ := not_or.1 hno
      obtain ⟨-, es, hput⟩ := hs.placeHold_lot hl (Bool.eq_false_iff.2 hfresh) hlive who gs
      rw [hput] at hx
      cases hx
      exact LotState.afterHold_unreleased r

theorem State.Consistent.unreleased (hs : s.Consistent) {h : HandlerId} {j : Slot} (hcurrent : s.handlers[h].cell.current = some j) :
    s.Unreleased j := by
  refine ⟨hs.slots, fun l hl hreleased => ?_⟩
  obtain rfl : l.slot = j := State.lot?_slot hl
  have hload : ∃ σ, s.handlers[h].cell.load σ = some l.slot := by
    cases hcell : s.handlers[h].cell with
    | running c q => rw [hcell] at hcurrent; exact ⟨.running, hcurrent⟩
    | draining c q => rw [hcell] at hcurrent; exact ⟨.draining, hcurrent⟩
    | _ => rw [hcell] at hcurrent; cases hcurrent
  obtain ⟨σ, hσ⟩ := hload
  rw [hs.load_slot hl, hreleased] at hσ
  cases hσ

theorem State.Unreleased.tripIf {c : Checked} {j : Slot} (h : c.state.Unreleased j) (b : Bool) (r : HoldReason) (gs : BitVec 4) :
    (c.tripIf b j r gs).state.Unreleased j ∧ (c.tripIf b j r gs).state.releaseQueue = c.state.releaseQueue := by
  unfold Checked.tripIf
  split
  · exact ⟨h.placeHold r none gs, h.placeHold_queue r none gs⟩
  · exact ⟨h, rfl⟩

theorem State.Unreleased.updLot {j : Slot} (h : s.Unreleased j) {f : Lot → Lot} (hslot : ∀ x : Lot, (f x).slot = x.slot)
    (hstate : ∀ x, x.state ≠ .released → (f x).state ≠ .released) : (s.updLot j f).Unreleased j := by
  obtain ⟨hs, hnot⟩ := h
  refine ⟨hs.updLot j hslot, fun l hl => ?_⟩
  obtain ⟨x, hx, rfl⟩ := List.mem_map.1 (State.lot?_mem hl)
  have hslotx : x.slot = j := by
    have := State.lot?_slot hl
    split at this
    · rwa [hslot] at this
    · exact this
  rw [if_pos hslotx]
  exact hstate x (hnot x (hslotx ▸ State.lot?_of_mem hs hx))

theorem State.Unreleased.rearmIf {c : Checked} {j : Slot} (h : c.state.Unreleased j) (b : Bool) :
    (c.rearmIf b j).state.Unreleased j ∧ (c.rearmIf b j).state.releaseQueue = c.state.releaseQueue := by
  unfold Checked.rearmIf
  split
  · exact ⟨h.updLot (fun _ => rfl) (fun _ hx => hx), rfl⟩
  · exact ⟨h, rfl⟩

theorem State.Unreleased.holdChecks_queue {j : Slot} (h : s.Unreleased j) (st : RouteStep) (r : StepRecord) (ring : List Bool) :
    (holdChecks st j r ring s).state.releaseQueue = s.releaseQueue := by
  unfold holdChecks
  obtain ⟨h1, q1⟩ := State.Unreleased.tripIf (c := ⟨s, []⟩) h (countExceeds r) .countExcess 0
  obtain ⟨h2, q2⟩ := h1.tripIf (yieldLowTrips st r) .yieldLow 0
  obtain ⟨h3, q3⟩ := h2.rearmIf (cumulativeRearms st r)
  obtain ⟨h4, q4⟩ := h3.tripIf (windowLowTrips st ring) .windowLow 0
  obtain ⟨-, q5⟩ := h4.tripIf (trippedGroups st r ≠ 0) .binSpike (trippedGroups st r)
  exact q5.trans (q4.trans (q3.trans (q2.trans q1)))

theorem State.Unreleased.checkTouchdown_queue {j : Slot} (h : s.Unreleased j) (i : HandlerId) :
    (s.checkTouchdown i j).1.state.releaseQueue = s.releaseQueue := by
  unfold State.checkTouchdown
  split
  · next l g _ _ =>
    obtain ⟨hs, ss, hsite⟩ := (holdChecks (s.stepOf l) j l.cur g.ring s).state.siteCheck_frame (s.stepOf l) i g.sites
    dsimp only
    rw [hsite]
    exact h.holdChecks_queue _ _ _
  · rfl

theorem State.Consistent.touchdown_queue (hs : s.Consistent) {h : HandlerId} (hcurrent : s.handlers[h].cell.current = some l.slot)
    (g : GuardRun) (index : BitVec 16) (n : Nat) (results : List Nat) :
    (s.acceptTouchdown h l g index n results).state.releaseQueue = s.releaseQueue := by
  obtain ⟨v, hv, hstate⟩ := s.acceptTouchdown_state h l g index n results
  have hcounted : (s.countTouchdown h l g index n (unitsOf results)).Unreleased l.slot :=
    (hs.unreleased hcurrent).updLot (f := fun x => { x with cur := (x.cur.addGap n).countUnits (s.stepOf l) (unitsOf results) })
      (fun _ => rfl) (fun _ hx => hx)
  have hqueue : v.releaseQueue = s.releaseQueue := by
    rcases hv with rfl | rfl
    · rfl
    · exact hcounted.checkTouchdown_queue h
  obtain ⟨ls, hs', ts, ds, ss, hlook⟩ := (v.updHandler h Handler.restartStall).lookahead_frame h
  rw [hstate, hlook]
  exact hqueue

theorem Quiet.holdRunning (p : Program) (v : TesterId) : Quiet s (s.holdRunning p v) := by
  refine .of_leads (.holdRunning p v) (fun hs => ?_)
  unfold State.holdRunning
  split
  · rfl
  · split
    · rfl
    · next j hj =>
      split
      · rfl
      · split
        · exact (hs.unreleased hj).placeHold_queue _ _ _
        · rfl

theorem Quiet.applyWithdrawal (p : Program) : Quiet s (s.applyWithdrawal p) := by
  have cancelled : Quiet s { s.cancelAll p with testers := vecMap (Tester.withdraw p) (s.cancelAll p).testers } := by
    refine .of_leads ?_ (fun _ => ?_)
    · exact (Leads.foldl (fun s (l : Lot) => .cancelReservation l.slot false) _ s).thenFloor rfl
    · obtain ⟨ls, hs, ds, ss, h⟩ := s.cancelAll_frame p
      rw [h]
  have ended : ∀ (s : State) (v : TesterId), Quiet s (s.loadEnded v) := fun s v => by
    refine .of_leads (.loadEnded v) (fun _ => ?_)
    obtain ⟨ls, hs, ts, ds, ss, h⟩ := s.loadEnded_frame v
    rw [h]
  have checked : ∀ (s : State) (v : TesterId), Quiet s (s.readyCheckAt v) := fun s v => by
    refine .of_leads (.readyCheckAt v) (fun _ => ?_)
    obtain ⟨hs, ss, h⟩ := s.readyCheckAt_frame v
    rw [h]
  unfold State.applyWithdrawal
  exact ((cancelled.trans (.foldl (fun _ => .holdRunning p) _ _)).trans (.foldl ended _ _)).trans (.foldl checked _ _)

theorem State.Consistent.holdThermal_queue (hs : s.Consistent) (h : HandlerId) : (s.holdThermal h).releaseQueue = s.releaseQueue := by
  unfold State.holdThermal
  split
  · next j hj => exact (hs.unreleased hj).placeHold_queue _ _ _
  · obtain ⟨hs, ss, hready⟩ := s.readyCheck_frame h
    rw [hready]

theorem Work.keeps_releaseQueue (w : Work k s t) (hs : s.Consistent) (hk : k ∉ [.lotEndorse, .shipCollect, .lotHold]) :
    t.releaseQueue = s.releaseQueue := by
  cases w with
  | same | attentionRead | attentionMask | timeSet | lotRegister | lotPurge | productDefine | productRemove | programDefine
    | programRemove | lotPriority | dispatchConfig | handlerConfig | handlerOnline | offlineIdle | dock | undock | handlerLock
    | handlerUnlock | testerEnable | testerDisable | testerClear | siteEnable | disposeRescreen | disposeScrap | endorseWithdraw
    | deviationSet | deviationClear => rfl
  | stationEnroll _ i rs new =>
    obtain ⟨hs, h⟩ := s.bind_frame i s.stations[i].bound new
    rw [h]
    rfl
  | stationRemove _ i =>
    obtain ⟨hs, h⟩ := s.bind_frame i s.stations[i].bound none
    rw [h]
    rfl
  | lotEnd _ h l =>
    obtain ⟨gs, hs, ss, hleave⟩ := ((s.closeStep l).1.afterClose l.slot).leaveHandler_frame h
    obtain ⟨ls, n, ss', hafter⟩ := (s.closeStep l).1.afterClose_frame l.slot
    obtain ⟨ls', ss'', hclose⟩ := s.closeStep_frame l
    rw [hleave, hafter, hclose]
  | programWithdraw _ i e p =>
    have hset : (s.setLibrary i e).Consistent := (State.consistent_iff _).2 hs.floor
    exact (Quiet.applyWithdrawal p hset).2
  | callWork _ h l =>
    obtain ⟨ls, hs, ts, ds, ss, h⟩ := s.reserve_frame h l
    rw [h]
  | lotBegin _ h v l r hl =>
    rw [hs.slots.beginLot_eq (State.lot?_of_mem hs.slots hl)]
    rfl
  | offlineReserved _ h j =>
    obtain ⟨ls, hs, ds, ss, h⟩ := s.cancelReservation_frame j false
    rw [h]
    rfl
  | kitInstalled _ h | tempReached _ h =>
    obtain ⟨hs, ss, h⟩ := State.readyCheck_frame (s.updHandler h _) h
    rw [h]
    rfl
  | tempLost _ h =>
    have hheld : (s.updHandler h (fun x => { x with thermal := .ramping })).Consistent :=
      (State.consistent_iff _).2 (by rw [s.floor_updHandler h rfl]; exact hs.floor)
    exact hheld.holdThermal_queue h
  | stageProgram _ v p =>
    obtain ⟨ts, ss, h⟩ := s.startLoad_frame v p 1
    rw [h]
  | programLoaded _ v g =>
    obtain ⟨ls, hs, ts, ds, ss, h⟩ := (s.updTester v (fun x => { x with staged := some g })).loadEnded_frame v
    rw [h]
    rfl
  | abortReserved _ v j =>
    obtain ⟨ls, hs, ts, ds, ss, h⟩ := ((s.updTester v (fun x => { x with staged := none })).cancelReservation j false).loadEnded_frame v
    obtain ⟨ls', hs', ds', ss', h'⟩ := (s.updTester v (fun x => { x with staged := none })).cancelReservation_frame j false
    rw [h, h']
    rfl
  | abortFree _ v =>
    obtain ⟨ls, hs, ts, ds, ss, h⟩ := (s.updTester v (fun x => { x with staged := none })).loadEnded_frame v
    rw [h]
    rfl
  | touchdown _ h l g index n results hl hcurrent => exact hs.touchdown_queue hcurrent g index n results
  | disposeContinue _ l r =>
    obtain ⟨ls, n, ss, h⟩ := s.continueLot_frame l.slot r
    rw [h]
  | drained _ h l =>
    obtain ⟨gs, hs, ss, h⟩ := (s.heldFromDrain l.slot).leaveHandler_frame h
    rw [h]
    rfl
  | lotHold | lotEndorse | shipCollect => exact absurd (by decide) hk

theorem Lot.stopCountdown_unreleased {l : Lot} (h : l.state ≠ .released) : l.stopCountdown.state ≠ .released := by
  unfold Lot.stopCountdown
  split
  · exact nofun
  · exact nofun
  · exact h

theorem Effect.changesQueue {c : Instr} (e : Effect c s t) (hpower : ∀ a b, c ≠ .powerOnReset a b) (hs : s.Consistent)
    (hne : t.releaseQueue ≠ s.releaseQueue) : Asks c [.lotEndorse, .shipCollect, .lotHold] := by
  cases e with
  | answered _ k m r b _ u hrequest hroom hrefused haccepted =>
    by_cases hok : r = .ok
    · exact ⟨k, m, hrequest, by_contra fun hk =>
        hne ((haccepted hok).keeps_releaseQueue ((State.consistent_iff _).2 hs.floor) hk)⟩
    · rw [hrefused hok] at hne
      exact absurd rfl hne
  | powerOn a b => exact absurd rfl (hpower a b)
  | lineReset =>
    obtain ⟨ls, ss, h⟩ := s.placeInterrupted_frame
    exact absurd (show s.placeInterrupted.releaseQueue = _ from by rw [h]) hne
  | queueTime j =>
    refine absurd ?_ hne
    unfold State.queueTimeExpiry
    split
    · next l hl =>
      split
      · next hdue =>
        have hnot : s.Unreleased j := ⟨hs.slots, fun x hx hreleased => by
          rw [hl] at hx
          cases hx
          rw [Lot.queueTimeDue, hreleased] at hdue
          cases hdue⟩
        exact (hnot.updLot (f := Lot.stopCountdown) (fun x => (Lot.stopCountdown_name x).1)
          (fun _ => Lot.stopCountdown_unreleased)).placeHold_queue _ _ _
      · rfl
    · rfl
  | soak h =>
    refine absurd ?_ hne
    unfold State.soakExpiry
    split
    · obtain ⟨hs, ss, hready⟩ := (s.updHandler h (fun x => { x with thermal := .atTemp })).readyCheck_frame h
      rw [hready]
      rfl
    · rfl
  | deadline v =>
    refine absurd ?_ hne
    unfold State.deadlineExpiry
    split
    · next g _ =>
      split
      · obtain ⟨ls, hs, ts, ds, ss, h⟩ :=
          (s.updTester v (fun x => { x with staged := some { g with state := .fault .timeout } })).loadEnded_frame v
        rw [h]
        rfl
      · rfl
    · rfl
  | stall h =>
    refine absurd ?_ hne
    unfold State.stallExpiry
    split
    · obtain ⟨ss, hmark⟩ := (s.updHandler h (fun x => { x with stalled := true })).markBound_frame h .stalled (unitBit h)
      rw [hmark]
      rfl
    · rfl
  | nothing | link | release | tick => exact absurd rfl hne

/-! ### O54 -/

theorem Effect.stamps {c : Instr} (e : Effect c s t) (hpower : ∀ a b, c ≠ .powerOnReset a b) :
    (t.stampCounter = s.stampCounter ∨ t.stampCounter = nextStamp s.stampCounter) ∧
      (t.waitingCounter = s.waitingCounter ∨ t.waitingCounter = nextStamp s.waitingCounter) := by
  have event : Sweeps s t → (t.stampCounter = s.stampCounter ∨ t.stampCounter = nextStamp s.stampCounter) ∧
      (t.waitingCounter = s.waitingCounter ∨ t.waitingCounter = nextStamp s.waitingCounter) := fun h =>
    ⟨.inl ((h.keeps .partStatus).stamps (by decide)), .inl ((h.keeps .partStatus).waitings (by decide))⟩
  cases e with
  | answered _ k m r b _ u hrequest hroom hrefused haccepted =>
    by_cases hok : r = .ok
    · exact ⟨(haccepted hok).stamps, (haccepted hok).waitings⟩
    · rw [hrefused hok]
      exact ⟨.inl rfl, .inl rfl⟩
  | powerOn a b => exact absurd rfl (hpower a b)
  | nothing => exact event .refl
  | link _ _ l => exact event (Sweeps.link s l)
  | lineReset => exact event (sweeps_lineReset s)
  | release a b => exact event (sweeps_leaveReset s a b)
  | tick => exact event (sweeps_tick s)
  | queueTime j => exact event (minors_queueTimeExpiry s j).sweeps
  | soak h => exact event (minors_soakExpiry s h).sweeps
  | deadline v => exact event (minors_deadlineExpiry s v).sweeps
  | stall h => exact event (minors_stallExpiry s h).sweeps

theorem nextStamp_min (n : Nat) : nextStamp n = min 4294967295 (n + 1) := by
  rw [nextStamp, holdAt_eq]
  rfl

/-- Settles O54: each table's changes, command by command; the release queue on a consistent floor. -/
theorem tablesChangeOnlyByTheirCommands : Obligations.TablesChangeOnlyByTheirCommands := by
  intro c s t hexec hpower only
  have e := exec_effect hexec
  obtain ⟨k, hkeeps, hasks⟩ := e.keeps hpower
  have hbase := e.changesBase hpower
  obtain ⟨hstamp, hwaiting⟩ := e.stamps hpower
  have by_kind : ∀ {ks : List Kind} {p : Prop}, Kind.partStatus ∉ ks → (k ∉ ks → p) → ¬ p → only ks := fun {ks p} hn hkeep hne =>
    hasks ks hn (by_contra fun hk => hne (hkeep hk))
  refine ⟨hbase.products, hbase.library, hbase.settings, hbase.floorTime, hbase.reset,
    fun h => ⟨?_, ?_, ?_, ?_, ?_⟩, fun v => ⟨?_, ?_, ?_⟩, fun i => ⟨?_, ?_, ?_, ?_⟩, ?_, ?_, ?_, ?_, fun d => ⟨?_, ?_⟩, fun h hne => ?_, ?_⟩
  · exact by_kind (by decide) (hkeeps.posts.handlers h).docked
  · exact by_kind (by decide) (hkeeps.posts.handlers h).lock
  · exact by_kind (by decide) (hkeeps.posts.handlers h).bound
  · exact by_kind (by decide) (hkeeps.posts.handlers h).config
  · exact by_kind (by decide) (hkeeps.posts.handlers h).kit
  · exact by_kind (by decide) (hkeeps.posts.testers v).configured
  · exact by_kind (by decide) (hkeeps.posts.testers v).docked
  · exact by_kind (by decide) (hkeeps.posts.testers v).active
  · exact by_kind (by decide) (hkeeps.posts.stations i).enrolled
  · exact by_kind (by decide) (hkeeps.posts.stations i).bound
  · exact by_kind (by decide) (hkeeps.posts.stations i).roles
  · exact by_kind (by decide) (hkeeps.posts.stations i).mask
  · rintro ⟨l, hl, hnew⟩
    exact by_kind (by decide) hkeeps.arrived (fun h => (h l hl).elim fun x hx => hnew x hx.1 hx.2)
  · rintro ⟨l, hl, hold⟩
    exact by_kind (by decide) hkeeps.gone (fun h => (h l hl).elim fun x hx => hold x hx.1 hx.2)
  · exact fun hne => ⟨(hstamp.resolve_left hne).trans (nextStamp_min _), by_kind (by decide) hkeeps.stamps hne⟩
  · exact fun hne => ⟨(hwaiting.resolve_left hne).trans (nextStamp_min _), by_kind (by decide) hkeeps.waitings hne⟩
  · exact by_kind (by decide) (fun hk => hkeeps.entries hk d)
  · exact fun hne => e.changesDeviations hpower (fun h => hne (by rw [h]))
  · exact e.changesGuards hpower (fun hg => hne (by rw [hg]))
  · exact fun hs hne => e.changesQueue hpower hs hne

end Sys2Proof.Machine
end

section
/-! SUPPORT. A withdrawal across the part, step by step: reservations, slots, running lots, ends of loads; and O25. -/

namespace Sys2Proof.Machine

variable {s t : State} {l x : Lot} {p : Program} {j k : Slot} {h : HandlerId} {u : TesterId}

/-! ### No reservation of the program -/

/-- The lot of a slot, if any, is not reserved with a program. -/
def State.FreeOf (s : State) (p : Program) (j : Slot) : Prop := ∀ l ∈ s.lots, l.slot = j → l.reservedWith p = false

theorem Lot.reservedWith_iff (l : Lot) (p : Program) :
    l.reservedWith p = true ↔ ∃ w h r, l.state = .reserved w h r ∧ r.program = p := by
  unfold Lot.reservedWith
  cases l.state <;> simp

theorem State.FreeOf.of_lots (hs : s.FreeOf p j) (hlots : t.lots = s.lots) : t.FreeOf p j := fun l hl => hs l (hlots ▸ hl)

theorem State.FreeOf.updLot (hs : s.FreeOf p j) (i : Slot) {f : Lot → Lot} (hslot : ∀ x : Lot, (f x).slot = x.slot)
    (hf : ∀ x : Lot, x.reservedWith p = false → (f x).reservedWith p = false) : (s.updLot i f).FreeOf p j := by
  intro l hl hj
  obtain ⟨x, hx, rfl⟩ := List.mem_map.1 hl
  split
  · next hi =>
    rw [if_pos hi, hslot] at hj
    exact hf x (hs x hx hj)
  · next hi =>
    rw [if_neg hi] at hj
    exact hs x hx hj

theorem State.FreeOf.setLotState (hs : s.FreeOf p j) (i : Slot) {y : LotState} (hy : ∀ w h r, y ≠ .reserved w h r) :
    (s.setLotState i y).FreeOf p j := by
  refine hs.updLot i (fun _ => rfl) (fun x _ => ?_)
  unfold Lot.reservedWith
  cases y with
  | reserved w h r => exact absurd rfl (hy w h r)
  | _ => rfl

theorem State.FreeOf.cancelReservation (hs : s.FreeOf p j) (i : Slot) (held : Bool) : (s.cancelReservation i held).FreeOf p j := by
  unfold State.cancelReservation
  split
  · exact hs
  · next l _ =>
    split
    · next w h r _ =>
      obtain ⟨ss, hmark⟩ := State.markBound_frame ((((s.updPending r.deviation (fun n => n - 1)).setLotState i
        (if held then .held else .queued w)).updHandler h Handler.dropReserved)) h .reservationCancelled (unitBit h)
      rw [hmark]
      obtain ⟨ds, hpending⟩ := s.updPending_frame r.deviation (fun n => n - 1)
      rw [hpending]
      exact (State.FreeOf.of_lots (t := { s with deviations := ds }) hs rfl).setLotState i
        (y := if held then .held else .queued w) (by cases held <;> exact nofun)
    · exact hs

theorem State.FreeOf.release (hs : s.FreeOf p j) (l : Lot) : (s.release l).FreeOf p j :=
  (State.FreeOf.of_lots (t := { s with releaseQueue := s.releaseQueue ++ [s.releaseRecord l] }) hs rfl).setLotState l.slot
    (y := .released) nofun

theorem State.FreeOf.addHold (hs : s.FreeOf p j) (i : Slot) (r : HoldReason) (who : Option StationId) (gs : BitVec 4) :
    (s.addHold i r who gs).1.FreeOf p j := by
  unfold State.addHold
  split
  · exact hs
  · split
    · exact hs
    · exact hs.updLot i (f := fun l => { l with holds := insertHold ⟨r, s.floorTime, who, gs⟩ l.holds }) (fun _ => rfl) (fun _ hx => hx)

theorem State.FreeOf.placeHold (hs : s.FreeOf p j) (i : Slot) (r : HoldReason) (who : Option StationId) (gs : BitVec 4) :
    (s.placeHold i r who gs).1.FreeOf p j := by
  unfold State.placeHold
  split
  · exact hs
  · next l _ =>
    split
    · exact hs
    · have hadded := hs.addHold i r who gs
      dsimp only
      split
      · exact hadded.setLotState i nofun
      · exact hadded.cancelReservation i true
      · next h q _ =>
        obtain ⟨ss, hmark⟩ := State.markBound_frame ((((s.addHold i r who gs).1.setLotState i (.draining h q r)).updHandler h
          (fun x => { x with cell := x.cell.drain, stalled := false }))) h .stop (unitBit h)
        unfold State.startDrain
        rw [hmark]
        exact (hadded.setLotState i (y := .draining h q r) nofun).of_lots rfl
      · exact hadded
      · exact hadded
      · exact hadded.updLot i (fun _ => rfl) (fun _ _ => rfl)
      · have hheld : (((s.addHold i r who gs).1.dropRecord i).updLot i
            (fun l => { l with state := .held, endorsements := [] })).FreeOf p j :=
          (State.FreeOf.of_lots (t := (s.addHold i r who gs).1.dropRecord i) hadded rfl).updLot i (fun _ => rfl) (fun _ _ => rfl)
        unfold State.recall State.offerPlace
        split
        · exact hheld.release _
        · exact hheld
      · exact hadded

theorem State.markBound_lots (s : State) (h : HandlerId) (a : AttentionKind) (v : BitVec 16) : (s.markBound h a v).lots = s.lots := by
  obtain ⟨ss, hmark⟩ := s.markBound_frame h a v
  rw [hmark]

theorem State.SlotsInOrder.cancelReservation_lots (hs : s.SlotsInOrder) (hl : s.lot? l.slot = some l) {w : Wait} {r : Resolved}
    (hstate : l.state = .reserved w h r) (held : Bool) :
    (s.cancelReservation l.slot held).lots = (s.putLot { l with state := if held then .held else .queued w }).lots := by
  rw [hs.cancelReservation_eq hl hstate held, State.markBound_lots]

theorem State.cancelReservation_unreserved (hl : s.lot? l.slot = some l) (hnot : ∀ w h r, l.state ≠ .reserved w h r) (held : Bool) :
    s.cancelReservation l.slot held = s := by
  rw [State.cancelReservation, hl]
  dsimp only
  split
  · next w h r hstate => exact absurd hstate (hnot w h r)
  · rfl

theorem State.cancelReservation_none (hl : s.lot? j = none) (held : Bool) : s.cancelReservation j held = s := by
  rw [State.cancelReservation, hl]

/-- A cancelled reservation is gone. -/
theorem State.SlotsInOrder.cancelReservation_free (hs : s.SlotsInOrder) (j : Slot) (p : Program) :
    (s.cancelReservation j false).FreeOf p j := by
  intro x hx hxj
  cases hl : s.lot? j with
  | none =>
    rw [State.cancelReservation_none hl] at hx
    have := State.lot?_of_mem hs hx
    rw [hxj, hl] at this
    cases this
  | some l =>
    obtain rfl : l.slot = j := State.lot?_slot hl
    by_cases hreserved : ∃ w h r, l.state = .reserved w h r
    · obtain ⟨w, h, r, hstate⟩ := hreserved
      have hput := hs.lot?_putLot (l := { l with state := .queued w }) hl
      rw [hs.cancelReservation_lots hl hstate] at hx
      have hfound := State.lot?_of_mem (hs.putLot _) hx
      rw [hxj] at hfound
      rw [← Option.some.inj (hput.symm.trans hfound)]
      rfl
    · have hnot : ∀ w h r, l.state ≠ .reserved w h r := fun w h r hstate => hreserved ⟨w, h, r, hstate⟩
      rw [State.cancelReservation_unreserved hl hnot] at hx
      rw [hs.eq_of_slot hx (State.lot?_mem hl) hxj]
      refine Bool.eq_false_iff.2 (fun hr => ?_)
      obtain ⟨w, h, r, hstate, -⟩ := (l.reservedWith_iff p).1 hr
      exact hnot w h r hstate

theorem foldl_cancel_free (p : Program) {ls : List Lot} (hs : s.SlotsInOrder) (hl : l ∈ ls) :
    (ls.foldl (fun s l => s.cancelReservation l.slot false) s).FreeOf p l.slot := by
  induction ls generalizing s with
  | nil => cases hl
  | cons a as ih =>
    have hnext : (s.cancelReservation a.slot false).SlotsInOrder := (minors_cancelReservation s a.slot false).slotsInOrder hs
    rcases List.mem_cons.1 hl with rfl | hl
    · exact foldl_keeps (fun v => v.FreeOf p l.slot) _ (fun v y hv => hv.cancelReservation y.slot false) as _
        (hs.cancelReservation_free l.slot p)
    · exact ih hnext hl

/-- Every reservation of the program is cancelled. -/
theorem State.SlotsInOrder.cancelAll_free (hs : s.SlotsInOrder) (p : Program) (j : Slot) : (s.cancelAll p).FreeOf p j := by
  by_cases hfree : s.FreeOf p j
  · exact foldl_keeps (fun v => v.FreeOf p j) _ (fun v y hv => hv.cancelReservation y.slot false) _ s hfree
  · unfold State.FreeOf at hfree
    push Not at hfree
    obtain ⟨l, hl, rfl, hreserved⟩ := hfree
    exact foldl_cancel_free p hs (List.mem_filter.2 ⟨hl, Bool.eq_true_of_not_eq_false hreserved⟩)

/-! ### The lots of other slots -/

theorem State.lot?_congr (hlots : t.lots = s.lots) (k : Slot) : t.lot? k = s.lot? k := by
  unfold State.lot?
  rw [hlots]

theorem State.SlotsInOrder.cancelReservation_lot?_ne (hs : s.SlotsInOrder) (hne : k ≠ j) (held : Bool) :
    (s.cancelReservation j held).lot? k = s.lot? k := by
  cases hl : s.lot? j with
  | none => rw [State.cancelReservation_none hl]
  | some l =>
    obtain rfl : l.slot = j := State.lot?_slot hl
    by_cases hreserved : ∃ w h r, l.state = .reserved w h r
    · obtain ⟨w, h, r, hstate⟩ := hreserved
      rw [State.lot?_congr (hs.cancelReservation_lots hl hstate held)]
      exact State.lot?_putLot_ne s hne
    · rw [State.cancelReservation_unreserved hl (fun w h r hstate => hreserved ⟨w, h, r, hstate⟩)]

theorem State.Unreleased.placeHold_lot?_ne (h : s.Unreleased j) (hne : k ≠ j) (r : HoldReason) (who : Option StationId) (gs : BitVec 4) :
    (s.placeHold j r who gs).1.lot? k = s.lot? k := by
  obtain ⟨hs, hnot⟩ := h
  cases hl : s.lot? j with
  | none => rw [State.placeHold, hl]
  | some l =>
    obtain rfl : l.slot = j := State.lot?_slot hl
    by_cases hno : l.hasHold r = true ∨ l.state = .scrapped
    · rw [State.placeHold_refused who gs hl hno]
    · obtain ⟨hfresh, hlive⟩ := not_or.1 hno
      have hput : ∀ x : Lot, x.slot = l.slot → (s.holdMarked.putLot x).lot? k = s.lot? k := fun x hx =>
        State.lot?_putLot_ne s.holdMarked (by rwa [hx])
      rw [hs.placeHold_eq who gs hl (Bool.eq_false_iff.2 hfresh) hlive]
      dsimp only
      split
      · exact hput _ rfl
      · rw [(hs.holdMarked.putLot _).cancelReservation_lot?_ne hne]
        exact hput _ rfl
      · next i q _ =>
        rw [hs.startDrain_putLot hl (x := l.withHold ⟨r, s.floorTime, who, gs⟩) rfl, State.lot?_congr (State.markBound_lots _ _ _ _)]
        exact hput _ rfl
      · exact hput _ rfl
      · next hreleased => exact absurd hreleased (hnot l hl)
      · exact hput _ rfl

/-! ### A running lot to be held -/

/-- The lot of a slot is on a handler with a run of a program in progress, and holds PROGRAM_WITHDRAWN where that is asked. -/
def State.Runs (s : State) (p : Program) (h : HandlerId) (k : Slot) (held : Bool) : Prop :=
  ∃ x, s.lot? k = some x ∧ x.state.currentHandler? = some h ∧ x.runInProgress.any (fun r => r.program = p) = true ∧
    (held = true → x.hasHold .programWithdrawn = true)

variable {held : Bool}

theorem State.Runs.of_lot? (hr : s.Runs p h k held) (hlot : t.lot? k = s.lot? k) : t.Runs p h k held := by
  unfold State.Runs
  rw [hlot]
  exact hr

theorem LotState.currentHandler_unreserved {y : LotState} (hy : y.currentHandler? = some h) (w : Wait) (i : HandlerId) (r : Resolved) :
    y ≠ .reserved w i r := fun he => by
  rw [he] at hy
  cases hy

theorem State.Runs.cancelReservation (hr : s.Runs p h k held) (hs : s.SlotsInOrder) (j : Slot) (b : Bool) :
    (s.cancelReservation j b).Runs p h k held := by
  by_cases hne : k = j
  · subst hne
    obtain ⟨x, hx, hcurrent, hrest⟩ := hr
    obtain rfl : x.slot = k := State.lot?_slot hx
    rw [State.cancelReservation_unreserved hx (LotState.currentHandler_unreserved hcurrent)]
    exact ⟨x, hx, hcurrent, hrest⟩
  · exact hr.of_lot? (hs.cancelReservation_lot?_ne hne b)

theorem LotState.currentHandler_afterHold {y : LotState} (hy : y.currentHandler? = some h) (r : HoldReason) :
    (y.afterHold r).currentHandler? = some h := by
  cases y with
  | running | draining => exact hy
  | _ => cases hy

/-- PROGRAM_WITHDRAWN placed on the running lot itself. -/
theorem State.Runs.placeHold_self (hr : s.Runs p h k held) (hs : s.SlotsInOrder) :
    (s.placeHold k .programWithdrawn none 0).1.Runs p h k true := by
  obtain ⟨x, hx, hcurrent, hrun, -⟩ := hr
  obtain rfl : x.slot = k := State.lot?_slot hx
  have hlive : x.state ≠ .scrapped := fun he => by rw [he] at hcurrent; cases hcurrent
  by_cases hhas : x.hasHold .programWithdrawn = true
  · rw [State.placeHold_refused none 0 hx (.inl hhas)]
    exact ⟨x, hx, hcurrent, hrun, fun _ => hhas⟩
  · obtain ⟨-, es, hput⟩ := hs.placeHold_lot hx (Bool.eq_false_iff.2 hhas) hlive none 0
    refine ⟨_, hput, LotState.currentHandler_afterHold hcurrent _, hrun, fun _ => ?_⟩
    exact (x.hasHold_withHold ⟨.programWithdrawn, s.floorTime, none, 0⟩ .programWithdrawn).2 (.inr rfl)

theorem State.Runs.weaken (hr : s.Runs p h k true) : s.Runs p h k held := by
  obtain ⟨x, hx, hcurrent, hrun, hhas⟩ := hr
  exact ⟨x, hx, hcurrent, hrun, fun _ => hhas rfl⟩

theorem State.Runs.placeHold (hr : s.Runs p h k held) (hj : s.Unreleased j) :
    (s.placeHold j .programWithdrawn none 0).1.Runs p h k held := by
  by_cases hne : k = j
  · subst hne
    exact (hr.placeHold_self hj.1).weaken
  · exact hr.of_lot? (hj.placeHold_lot?_ne hne _ _ _)

theorem State.Runs.holdRunning (hr : s.Runs p h k held) (hs : s.Consistent) (v : TesterId) : (s.holdRunning p v).Runs p h k held := by
  unfold State.holdRunning
  split
  · exact hr
  · split
    · exact hr
    · next j hj =>
      split
      · exact hr
      · split
        · exact hr.placeHold (hs.unreleased hj)
        · exact hr

/-- A lot on a handler of a consistent floor is the current lot of its cell. -/
theorem State.Consistent.current_of (hs : s.Consistent) (hl : s.lot? l.slot = some l) (hcurrent : l.state.currentHandler? = some h) :
    s.handlers[h].cell.current = some l.slot := by
  cases hstate : l.state with
  | running i q =>
    rw [hstate] at hcurrent
    cases hcurrent
    obtain ⟨r, hr⟩ := hs.cell_of_running hl hstate
    rw [hr]
    rfl
  | draining i q c =>
    rw [hstate] at hcurrent
    cases hcurrent
    obtain ⟨r, hr⟩ := hs.cell_of_draining hl hstate
    rw [hr]
    rfl
  | _ => rw [hstate] at hcurrent; cases hcurrent

/-- The tester docked to the running lot's handler holds it. -/
theorem State.Runs.holdRunning_self (hr : s.Runs p h k held) (hs : s.Consistent) (hdocked : s.testers[u].docked = some h) :
    (s.holdRunning p u).Runs p h k true := by
  obtain ⟨x, hx, hcurrent, hrun, hhas⟩ := hr
  obtain rfl : x.slot = k := State.lot?_slot hx
  have hheld : s.holdRunning p u = (s.placeHold x.slot .programWithdrawn none 0).1 := by
    unfold State.holdRunning
    rw [hdocked]
    dsimp only
    rw [hs.current_of hx hcurrent]
    dsimp only
    rw [hx]
    exact if_pos hrun
  rw [hheld]
  exact State.Runs.placeHold_self ⟨x, hx, hcurrent, hrun, hhas⟩ hs.slots

/-! ### The state that a withdrawal leaves -/

/-- No lot is reserved with a program, no tester stages it, and every tester that runs it has it marked. -/
structure Withdrawn (p : Program) (s : State) : Prop where
  consistent : s.Consistent
  free : ∀ j, s.FreeOf p j
  unstaged : ∀ v : TesterId, s.testers[v].stagedHolds p = false
  marked : ∀ (v : TesterId) a, s.testers[v].active = some a → a.program = p → a.withdrawn = true

theorem Withdrawn.of_leads (h : Withdrawn p s) (hleads : Leads False s t) (hfree : ∀ j, t.FreeOf p j) (htesters : t.testers = s.testers) :
    Withdrawn p t :=
  ⟨t.consistent_iff.2 (hleads h.consistent.floor).1, hfree, fun v => by rw [htesters]; exact h.unstaged v,
    fun v => by rw [htesters]; exact h.marked v⟩

theorem Withdrawn.holdRunning (h : Withdrawn p s) (v : TesterId) : Withdrawn p (s.holdRunning p v) := by
  obtain ⟨ls, hs, ds, ss, rq, hframe⟩ := s.holdRunning_frame p v
  refine h.of_leads (.holdRunning p v) (fun j => ?_) (by rw [hframe])
  unfold State.holdRunning
  split
  · exact h.free j
  · split
    · exact h.free j
    · split
      · exact h.free j
      · split
        · exact (h.free j).placeHold _ _ _ _
        · exact h.free j

theorem State.readyCheck_lots (s : State) (h : HandlerId) : (s.readyCheck h).lots = s.lots ∧ (s.readyCheck h).testers = s.testers := by
  obtain ⟨hs, ss, hready⟩ := s.readyCheck_frame h
  rw [hready]
  exact ⟨rfl, rfl⟩

theorem Withdrawn.readyCheck (hw : Withdrawn p s) (h : HandlerId) : Withdrawn p (s.readyCheck h) :=
  hw.of_leads (.of_floor (s.floor_readyCheck h)) (fun j => (hw.free j).of_lots (s.readyCheck_lots h).1) (s.readyCheck_lots h).2

theorem Withdrawn.cancelReservation (hw : Withdrawn p s) (i : Slot) (b : Bool) : Withdrawn p (s.cancelReservation i b) := by
  obtain ⟨ls, hs, ds, ss, hframe⟩ := s.cancelReservation_frame i b
  exact hw.of_leads (.cancelReservation i b) (fun j => (hw.free j).cancelReservation i b) (by rw [hframe])

/-- The reserved lot of a handler is not for the program. -/
theorem Withdrawn.reservedOn_ne (hw : Withdrawn p s) {q : Program} (hres : s.reservedOn h = some (k, q)) : q ≠ p := by
  rintro rfl
  obtain ⟨hcell, l, r, hl, hresolved, hprogram⟩ := State.reservedOn_some.1 hres
  obtain rfl : l.slot = k := State.lot?_slot hl
  obtain ⟨w, r', hstate⟩ := LotState.seat_reserved.1
    ((hw.consistent.load_slot hl h .reserved).1 (by rw [Cell.load_reserved, hcell]))
  have hnot := hw.free l.slot l (State.lot?_mem hl) rfl
  rw [hstate] at hresolved
  obtain rfl : r' = r := Option.some.inj hresolved
  rw [(l.reservedWith_iff q).2 ⟨w, h, r', hstate, hprogram⟩] at hnot
  cases hnot

theorem Withdrawn.startLoad (hw : Withdrawn p s) (v : TesterId) {q : Program} (hq : q ≠ p) (n : Nat) : Withdrawn p (s.startLoad v q n) := by
  have hlots : (s.startLoad v q n).lots = s.lots := by
    obtain ⟨ts, ss, hframe⟩ := s.startLoad_frame v q n
    rw [hframe]
  have htesters : ∀ i : TesterId, (s.startLoad v q n).testers[i] = s.testers[i] ∨
      ∃ e, (s.startLoad v q n).testers[i] = { s.testers[i] with staged := some (loadOf e q n) } := fun i => by
    unfold State.startLoad
    split
    · exact .inl rfl
    · next e _ =>
      have hupd : ∀ w : State, w.testers = (s.updTester v (fun x => { x with staged := some (loadOf e q n) })).testers →
          w.testers[i] = s.testers[i] ∨ ∃ e, w.testers[i] = { s.testers[i] with staged := some (loadOf e q n) } := fun w hw' => by
        rw [hw']
        by_cases hi : v = i
        · subst hi
          exact .inr ⟨e, State.updTester_self s v _⟩
        · exact .inl (State.updTester_ne s hi _)
      dsimp only
      split
      · next i' _ =>
        obtain ⟨ss, hmark⟩ := (s.updTester v (fun x => { x with staged := some (loadOf e q n) })).markBound_frame i' .stageRequest
          (unitBit i')
        exact hupd _ (by rw [hmark])
      · exact hupd _ rfl
  refine ⟨(State.consistent_iff _).2 (by rw [State.floor_startLoad]; exact hw.consistent.floor), fun j => (hw.free j).of_lots hlots,
    fun i => ?_, fun i a => ?_⟩
  · rcases htesters i with h | ⟨e, h⟩
    · rw [h]; exact hw.unstaged i
    · rw [h]
      simp [Tester.stagedHolds, loadOf, hq]
  · rcases htesters i with h | ⟨e, h⟩ <;> rw [h] <;> exact hw.marked i a

/-- What follows the end of a load: nothing, a check of readiness, a load for the docked handler's reserved lot, or a
cancellation. -/
theorem State.afterLoad_cases (s : State) (v : TesterId) :
    s.afterLoad v = s ∨ (∃ h, s.afterLoad v = s.readyCheck h) ∨ (∃ j, s.afterLoad v = s.cancelReservation j false) ∨
      ∃ h j q n, s.reservedOn h = some (j, q) ∧ s.afterLoad v = s.startLoad v q n := by
  unfold State.afterLoad
  split
  · exact .inl rfl
  · next h _ =>
    split
    · exact .inl rfl
    · next j q hres =>
      split
      · exact .inr (.inl ⟨h, rfl⟩)
      · split
        · split
          · split
            · exact .inr (.inr (.inr ⟨h, j, q, _, hres, rfl⟩))
            · exact .inr (.inr (.inl ⟨j, rfl⟩))
          · exact .inr (.inr (.inr ⟨h, j, q, _, hres, rfl⟩))
        · exact .inr (.inr (.inr ⟨h, j, q, _, hres, rfl⟩))

theorem Withdrawn.afterLoad (hw : Withdrawn p s) (v : TesterId) : Withdrawn p (s.afterLoad v) := by
  rcases s.afterLoad_cases v with he | ⟨i, he⟩ | ⟨i, he⟩ | ⟨i, j, q, n, hres, he⟩ <;> rw [he]
  · exact hw
  · exact hw.readyCheck i
  · exact hw.cancelReservation i false
  · exact hw.startLoad v (hw.reservedOn_ne hres) n

theorem State.loadEnded_eq (s : State) (v : TesterId) : ∃ ss, s.loadEnded v = State.afterLoad { s with stations := ss } v := by
  unfold State.loadEnded
  split
  · obtain ⟨ss, hmark⟩ := s.markStagingFault_frame v
    exact ⟨ss, by rw [hmark]⟩
  · exact ⟨s.stations, rfl⟩

theorem Withdrawn.loadEnded (hw : Withdrawn p s) (v : TesterId) : Withdrawn p (s.loadEnded v) := by
  obtain ⟨ss, he⟩ := s.loadEnded_eq v
  have hmarked : Withdrawn p { s with stations := ss } := hw.of_leads (.of_floor rfl) (fun j => (hw.free j).of_lots rfl) rfl
  rw [he]
  exact hmarked.afterLoad v

theorem Withdrawn.readyCheckAt (hw : Withdrawn p s) (v : TesterId) : Withdrawn p (s.readyCheckAt v) := by
  unfold State.readyCheckAt
  split
  · exact hw.readyCheck _
  · exact hw

variable {held : Bool}

theorem State.Runs.loadEnded (hr : s.Runs p h k held) (hs : s.SlotsInOrder) (v : TesterId) : (s.loadEnded v).Runs p h k held := by
  obtain ⟨ss, he⟩ := s.loadEnded_eq v
  have hr' : State.Runs { s with stations := ss } p h k held := hr.of_lot? rfl
  rw [he]
  rcases State.afterLoad_cases { s with stations := ss } v with he | ⟨i, he⟩ | ⟨i, he⟩ | ⟨i, j, q, n, -, he⟩ <;> rw [he]
  · exact hr'
  · exact hr'.of_lot? (State.lot?_congr (State.readyCheck_lots _ i).1 k)
  · exact hr'.cancelReservation hs i false
  · obtain ⟨ts, ss', hframe⟩ := State.startLoad_frame { s with stations := ss } v q n
    rw [hframe]
    exact hr'.of_lot? rfl

theorem State.Runs.readyCheckAt (hr : s.Runs p h k held) (v : TesterId) : (s.readyCheckAt v).Runs p h k held := by
  unfold State.readyCheckAt
  split
  · exact hr.of_lot? (State.lot?_congr (s.readyCheck_lots _).1 k)
  · exact hr

theorem foldl_holdRunning_runs {vs : List TesterId} (hu : u ∈ vs) (hw : Withdrawn p s) (hdocked : s.testers[u].docked = some h)
    (hr : s.Runs p h k false) : (vs.foldl (State.holdRunning p) s).Runs p h k true := by
  induction vs generalizing s with
  | nil => cases hu
  | cons v vs ih =>
    rcases List.mem_cons.1 hu with rfl | hu
    · have hkept := foldl_keeps (fun y => Withdrawn p y ∧ y.Runs p h k true) (State.holdRunning p)
        (fun y i hy => ⟨hy.1.holdRunning i, hy.2.holdRunning hy.1.consistent i⟩) vs _
        ⟨hw.holdRunning u, hr.holdRunning_self hw.consistent hdocked⟩
      exact hkept.2
    · obtain ⟨ls, hs, ds, ss, rq, hframe⟩ := s.holdRunning_frame p v
      exact ih hu (hw.holdRunning v) (by rw [hframe]; exact hdocked) (hr.holdRunning hw.consistent v)

/-- A tester after a withdrawal stages the program no longer, and has it marked where it runs it. -/
theorem Tester.withdraw_slots (p : Program) (x : Tester) :
    (x.withdraw p).stagedHolds p = false ∧ (∀ a, (x.withdraw p).active = some a → a.program = p → a.withdrawn = true) ∧
      (x.withdraw p).docked = x.docked := by
  refine ⟨?_, fun a ha hp => ?_, rfl⟩
  · unfold Tester.withdraw
    cases hholds : x.stagedHolds p with
    | true => rfl
    | false => exact hholds
  · obtain ⟨b, -, rfl⟩ := Option.map_eq_some_iff.1 ha
    split at hp
    · next hb => rw [if_pos hb]
    · next hb => exact absurd hp hb

/-- Reservations cancelled and slots emptied and marked. -/
theorem State.Consistent.cancelled_withdrawn (hs : s.Consistent) (p : Program) :
    Withdrawn p { s.cancelAll p with testers := vecMap (Tester.withdraw p) (s.cancelAll p).testers } := by
  have cancelled : Leads False s { s.cancelAll p with testers := vecMap (Tester.withdraw p) (s.cancelAll p).testers } :=
    (Leads.foldl (fun s (l : Lot) => .cancelReservation l.slot false) _ s).thenFloor rfl
  have hslot : ∀ v : TesterId, (vecMap (Tester.withdraw p) (s.cancelAll p).testers)[v] = (s.cancelAll p).testers[v].withdraw p :=
    fun v => vecMap_getElem_fin _ _ v
  refine ⟨(State.consistent_iff _).2 (cancelled hs.floor).1, fun j => (hs.slots.cancelAll_free p j).of_lots rfl, fun v => ?_, fun v a => ?_⟩
  · rw [hslot]
    exact (Tester.withdraw_slots p _).1
  · rw [hslot]
    exact (Tester.withdraw_slots p _).2.1 a

theorem State.Consistent.applyWithdrawal_withdrawn (hs : s.Consistent) (p : Program) : Withdrawn p (s.applyWithdrawal p) := by
  unfold State.applyWithdrawal
  exact foldl_keeps (Withdrawn p) _ (fun _ v hv => hv.readyCheckAt v) _ _
    (foldl_keeps (Withdrawn p) _ (fun _ v hv => hv.loadEnded v) _ _
      (foldl_keeps (Withdrawn p) _ (fun _ v hv => hv.holdRunning v) _ _ (hs.cancelled_withdrawn p)))

/-- A lot that runs the program on a tester that has it active is held. -/
theorem State.Consistent.applyWithdrawal_runs (hs : s.Consistent) (hactive : s.testers[u].activeHolds p = true)
    (hdocked : s.testers[u].docked = some h) (hr : s.Runs p h k false) : (s.applyWithdrawal p).Runs p h k true := by
  have htesters : (s.cancelAll p).testers = s.testers := by
    obtain ⟨ls, hs', ds, ss, hframe⟩ := s.cancelAll_frame p
    rw [hframe]
  have hcancelled : (s.cancelAll p).Runs p h k false := by
    have hkept := foldl_keeps (fun y => y.SlotsInOrder ∧ y.Runs p h k false) (fun s (l : Lot) => s.cancelReservation l.slot false)
      (fun y l hy => ⟨(minors_cancelReservation y l.slot false).slotsInOrder hy.1, hy.2.cancelReservation hy.1 l.slot false⟩)
      (s.lots.filter (Lot.reservedWith p)) s ⟨hs.slots, hr⟩
    exact hkept.2
  have hmarked : u ∈ testersWhere (fun v => (s.cancelAll p).testers[v].activeHolds p) := by
    refine List.mem_filter.2 ⟨List.mem_finRange u, ?_⟩
    rw [htesters]
    exact hactive
  have hw := hs.cancelled_withdrawn p
  have hstays : (vecMap (Tester.withdraw p) (s.cancelAll p).testers)[u].docked = some h := by
    rw [vecMap_getElem_fin, htesters]
    exact hdocked
  have hheld := foldl_holdRunning_runs hmarked hw hstays (hcancelled.of_lot? rfl)
  have hwheld := foldl_keeps (Withdrawn p) _ (fun _ v hv => hv.holdRunning v)
    (testersWhere (fun v => (s.cancelAll p).testers[v].activeHolds p)) _ hw
  unfold State.applyWithdrawal
  have hended := foldl_keeps (fun y => Withdrawn p y ∧ y.Runs p h k true) State.loadEnded
    (fun y v hy => ⟨hy.1.loadEnded v, hy.2.loadEnded hy.1.consistent.slots v⟩)
    (testersWhere (fun v => (s.cancelAll p).testers[v].stagedHolds p)) _ ⟨hwheld, hheld⟩
  exact foldl_keeps (fun y => y.Runs p h k true) State.readyCheckAt (fun y v hy => hy.readyCheckAt v) _ _ hended.2

/-- On a consistent floor a lot on a handler with a hold is DRAINING. -/
theorem State.Consistent.draining_of_runs (hs : s.Consistent) (hr : s.Runs p h k true) :
    ∃ x, s.lot? k = some x ∧ x.hasHold .programWithdrawn = true ∧ x.state.name = .draining := by
  obtain ⟨x, hx, hcurrent, -, hhas⟩ := hr
  refine ⟨x, hx, hhas rfl, ?_⟩
  have hne : x.holds ≠ [] := fun he => by
    rw [Lot.hasHold_of_empty he] at hhas
    cases hhas rfl
  rcases hs.holds x (State.lot?_mem hx) hne with hheld | hdraining
  · cases hstate : x.state with
    | held => rw [hstate] at hcurrent; cases hcurrent
    | _ => rw [hstate] at hheld; cases hheld
  · exact hdraining

theorem programWithdraw_of_found {i : LibIx} {y : LibraryEntry} {sender : StationId} {n e : Nat} (hok : programOk n e = true)
    (hi : s.libraryIndex? ⟨n, e⟩ = some i) (hy : s.library[i] = some y) (hnot : y.withdrawal = none) :
    programWithdraw sender n e s =
      accept ((s.setLibrary i (some { y with withdrawal := some ⟨s.floorTime, sender⟩ })).applyWithdrawal ⟨n, e⟩) .nothing := by
  unfold programWithdraw
  rw [hok, hi]
  dsimp only
  rw [hy]
  dsimp only
  rw [hnot]
  rfl

/-- Settles O25: step by step across the part, on a floor that stays consistent. -/
theorem programWithdraw_withdraws : Obligations.ProgramWithdraw := by
  intro m n e i y s htakes hs hok hi hy hnot
  have hs0 : (s.taken.setLibrary i (some { y with withdrawal := some ⟨s.taken.floorTime, m.sender⟩ })).Consistent :=
    (State.consistent_iff _).2 hs.floor
  have hw := hs0.applyWithdrawal_withdrawn ⟨n, e⟩
  have hquiet := (Quiet.applyWithdrawal ⟨n, e⟩ hs0).2
  obtain ⟨ls, hs', ts, ds, ss, rq, hframe⟩ :=
    (s.taken.setLibrary i (some { y with withdrawal := some ⟨s.taken.floorTime, m.sender⟩ })).applyWithdrawal_frame ⟨n, e⟩
  refine ⟨_, State.request_answers htakes (programWithdraw_of_found (s := s.taken) hok hi hy hnot), ?_, fun l hl w h r hstate hp => ?_,
    hw.unstaged, hw.marked, fun u h k l hactive hdocked hcurrent hl hrun => ?_, ?_, ?_, ?_, ?_, ?_, hquiet, ?_, ?_⟩
  · rw [hframe]; rfl
  · have hfree := hw.free l.slot l hl rfl
    rw [(l.reservedWith_iff _).2 ⟨w, h, r, hstate, hp⟩] at hfree
    cases hfree
  · obtain rfl : l.slot = k := State.lot?_slot hl
    have honHandler : l.state.currentHandler? = some h := by
      have hload : ∃ σ, σ ≠ .reserved ∧ s.handlers[h].cell.load σ = some l.slot := by
        cases hcell : s.handlers[h].cell with
        | running c q => rw [hcell] at hcurrent; exact ⟨.running, nofun, hcurrent⟩
        | draining c q => rw [hcell] at hcurrent; exact ⟨.draining, nofun, hcurrent⟩
        | _ => rw [hcell] at hcurrent; cases hcurrent
      obtain ⟨σ, hne, hσ⟩ := hload
      have hseat := (hs.load_slot hl h σ).1 hσ
      cases σ with
      | reserved => exact absurd rfl hne
      | running =>
        obtain ⟨r, hr⟩ := LotState.seat_running.1 hseat
        rw [hr]
        rfl
      | draining =>
        obtain ⟨r, c, hr⟩ := LotState.seat_draining.1 hseat
        rw [hr]
        rfl
    exact hw.consistent.draining_of_runs (hs0.applyWithdrawal_runs hactive hdocked ⟨l, hl, honHandler, hrun, nofun⟩)
  all_goals rw [hframe]; rfl

end Sys2Proof.Machine
end
